-- ==== Sys2Proof/Word.lean ====
section
/-! DEFINITION. The word types of the station: what the manual treats as bits. -/

namespace Sys2Proof

/-- A byte of a frame or of the configuration image (R193). -/
abbrev Byte := BitVec 8

/-- A 16-bit value: a tag, a param, a mark number, a frame count, a counter (R22, R25, R88). -/
abbrev Word16 := BitVec 16

/-- A 32-bit count of ticks that wraps: local time, line time, a stamp, a sample (R1, R2, R6). -/
abbrev Time := BitVec 32

end Sys2Proof
end

