-- ==== Sys2Proof/Syntax.lean ====
section
/-! DEFINITION. The commands of the station: one constructor for each row of the opcode table. A row
is one whole, indivisible step of the part; its operands are what the world supplies with it. -/

namespace Sys2Proof

/-- The sync state of a station (section 1.4, R14 to R17). -/
inductive SyncState where
  | alone | acquiring | locked | adrift
  deriving DecidableEq, Repr

/-- The direction of an edge on a capture input (R84). -/
inductive Edge where
  | rise | fall
  deriving DecidableEq, Repr

/-- The twelve kinds of frame (R196). -/
inductive FrameKind where
  | hello | stamp | mark | arm | cancel | setgen | react | query | control | report | reply | notice
  deriving DecidableEq, Repr

/-- A clean frame as it is handed on (R136): the header fields of R196 but for the kind and the
length, and the payload bytes. The kind is the row's; the length is the payload's. -/
structure Frame where
  sender : Nat
  destination : Nat
  sequence : BitVec 4
  sync : SyncState
  stamp : Time
  payload : List Byte
  deriving DecidableEq, Repr

/-- What the blocks do at an announced settle point (R8). They need no order among themselves, so
the order is the world's: `SETTLE_POINT` carries it. -/
inductive SettleAct where
  /-- The roster controller ages the peers and removes silent ones (R119, R120). -/
  | agePeers
  /-- The transmit queue checks stamp duty (R154). -/
  | stampDuty
  /-- Station control counts toward the listen time, and activates (R186, R187). -/
  | listenCount
  /-- The output channels take a loss of lock (R18, R73). -/
  | hold
  /-- The generators take a step (R68 to R70). -/
  | generators
  /-- The schedule takes a step (R38, R43). -/
  | schedule
  deriving DecidableEq, Repr

/-- A step that can hand frames to the transmit queue (R49, R91, R154, R160), with its operands. -/
inductive OvertakenStep where
  /-- ENTRY_DUE (R37). -/
  | entryDue
  /-- SETTLE_POINT (R8), with the order in which the blocks act on it. -/
  | settlePoint (order : List SettleAct)
  /-- CAPTURE_EDGE (R85). -/
  | captureEdge (input : Fin 4) (edge : Edge) (markFirst : Bool)
  /-- A clean frame handed on by the row of R136 it belongs to. -/
  | delivered (kind : FrameKind) (frame : Frame)
  deriving DecidableEq, Repr

/-- A step taken ahead of an entry into SILENCED in the same moment, some of whose frames reach the transmit
queue after it has been emptied (R158, R176). -/
structure Overtaken where
  step : OvertakenStep
  /-- How many of the frames the step hands over find a place in the queue before the emptying. Every one after
  them arrives in an emptied queue. -/
  placed : Nat
  deriving DecidableEq, Repr

/-- The commands: the 48 rows of the opcode table. -/
inductive Instr where
  /-- POWER_ON (R180). -/
  | powerOn
  /-- RESET_N_ASSERTED (R180). -/
  | resetNAsserted
  /-- RESET_N_RELEASED (R181): the 96 bytes that the configuration memory gives on CFG_DIN, bit by bit,
  in the read that begins (0xFF each where nothing drives the pin). -/
  | resetNReleased (memory : List Byte)
  /-- CONFIG_READ_END (R181). -/
  | configReadEnd
  /-- SETTLE_POINT (R8), with the order in which the blocks act on it. -/
  | settlePoint (order : List SettleAct)
  /-- CAPTURE_EDGE (R85): the input, the edge, and whether the MARK of a capture reaches the transmit
  queue before the reaction table is handed it (either order, R90). -/
  | captureEdge (input : Fin 4) (edge : Edge) (markFirst : Bool)
  /-- HOLD_OFF_EXPIRY (R86). -/
  | holdOffExpiry (input : Fin 4)
  /-- ENTRY_DUE (R37). -/
  | entryDue
  /-- PULSE_END (R58). -/
  | pulseEnd (channel : Fin 8)
  /-- BURST_HALF_END (R59). -/
  | burstHalfEnd (channel : Fin 8)
  /-- DEAD_BAND_EXPIRY (R72), of the pair 0/1, 2/3, 4/5 or 6/7. -/
  | deadBandExpiry (pair : Fin 4)
  /-- GEN_HIGH_END (R64). -/
  | genHighEnd (channel : Fin 8)
  /-- GEN_FRAME_END (R65). -/
  | genFrameEnd (channel : Fin 8)
  /-- ACTIVITY_BEGINS (R132). -/
  | activityBegins
  /-- BREAK_HEARD (R132). -/
  | breakHeard
  /-- LINE_GOES_QUIET (R133): the bit cells read in the stretch that ends, from its first edge on
  (true for a 1, R130); whether the stretch went on after them with activity that is no bit cell; and
  whether a frame found clean is handed on before the quiet period begins (either order, R125). -/
  | lineGoesQuiet (cells : List Bool) (more : Bool) (frameFirst : Bool)
  /-- QUIET_COUNT_STEP (R132). -/
  | quietCountStep
  /-- HELLO_RECEIVED (R116). -/
  | helloReceived (frame : Frame)
  /-- STAMP_RECEIVED (R116). -/
  | stampReceived (frame : Frame)
  /-- MARK_RECEIVED (R92). -/
  | markReceived (frame : Frame)
  /-- FOREIGN_ANSWER (R136): a REPLY, REPORT or NOTICE. -/
  | foreignAnswer (kind : FrameKind) (frame : Frame)
  /-- DUPLICATE_NUMBER_FRAME (R126), of any kind; and, if there is one, the step that was taken before it in
  the same moment and whose frames, all or the last of them, reach the transmit queue after the emptying
  (R158, R176). -/
  | duplicateNumberFrame (kind : FrameKind) (frame : Frame) (overtaken : Option Overtaken)
  /-- ARM (R29). -/
  | arm (frame : Frame)
  /-- CANCEL_BY_TAG (R44). A CANCEL whose form code is undefined is counted here. -/
  | cancelByTag (frame : Frame)
  /-- CANCEL_BY_CHANNEL (R45). -/
  | cancelByChannel (frame : Frame)
  /-- SETGEN (R66). -/
  | setgen (frame : Frame)
  /-- REACT_INSTALL (R99). A REACT whose operation code is undefined is counted here. -/
  | reactInstall (frame : Frame)
  /-- REACT_REMOVE (R101). -/
  | reactRemove (frame : Frame)
  /-- QUERY_STATUS (R170). -/
  | queryStatus (frame : Frame)
  /-- QUERY_SCHEDULE (R169). -/
  | querySchedule (frame : Frame)
  /-- QUERY_CAPTURES (R89). -/
  | queryCaptures (frame : Frame)
  /-- QUERY_PEERS (R127). -/
  | queryPeers (frame : Frame)
  /-- QUERY_REACTIONS (R113). -/
  | queryReactions (frame : Frame)
  /-- QUERY_COUNTERS (R199). -/
  | queryCounters (frame : Frame)
  /-- QUERY_CHANNELS (R170). -/
  | queryChannels (frame : Frame)
  /-- RELEASE_HOLD (R76). A CONTROL whose operation code is undefined is counted here. -/
  | releaseHold (frame : Frame)
  /-- CLEAR_COUNTERS (R173). -/
  | clearCounters (frame : Frame)
  /-- FLUSH_SCHEDULE (R46). -/
  | flushSchedule (frame : Frame)
  /-- RESTART (R174). -/
  | restart (frame : Frame)
  /-- TRANSMISSION_BEGINS (R140). -/
  | transmissionBegins
  /-- COLLISION (R142). -/
  | collision
  /-- BREAK_RELEASE (R142). -/
  | breakRelease
  /-- OWN_FRAME_CLEAN_END (R144). -/
  | ownFrameCleanEnd
  /-- STAMP_POINT_OF_INCOMING_FRAME (R5). -/
  | stampPointOfIncomingFrame
  /-- STAMP_POINT_OF_OWN_FRAME (R4). -/
  | stampPointOfOwnFrame
  /-- INPUT_EDGE_NOT_OF_INTEREST (R93). -/
  | inputEdgeNotOfInterest (input : Fin 4) (edge : Edge)
  /-- COMMAND_FOR_ANOTHER_STATION (R136). -/
  | commandForAnotherStation (kind : FrameKind) (frame : Frame)
  /-- QUERY_UNKNOWN_TOPIC (R169). -/
  | queryUnknownTopic (frame : Frame)
  deriving DecidableEq, Repr

end Sys2Proof
end

