-- ==== Sys2Proof/Decode.lean ====
section
/-! DEFINITION. The command a word spells by the bits of the opcode table. -/

namespace Sys2Proof

/-- No row of the opcode table gives bits: its 48 rows are steps of the part, not words. So no word
spells a command. The formats of what does come as bits, frames and the image, are in
Machine/Formats.lean and Machine/Operands.lean. -/
def decodeTableWord (_nbits _w : Nat) : Option Instr := none

end Sys2Proof
end

