-- ==== Sys2Proof/Config.lean ====
section
/-! DEFINITION. The values the manual leaves open: constants without a body, so that nothing can be
proved about which value they give. Each is applied to the draw number the state keeps. -/

namespace Sys2Proof

/-- The backoff generator (R143): the `n`-th draw gives 0..7 gap units, and nothing says which.
FREE VALUE, log entry 3. -/
opaque Config.backoffDraw : Nat → BitVec 3

/-- The local time a clean frame's sample is measured from when no stamp-point time is latched
(R5 latches one for every frame, so the manual states no value here). FREE VALUE, log entry 4. -/
opaque Config.unlatchedTime : Nat → BitVec 32

end Sys2Proof
end

