-- ==== Sys2Proof/Machine/Types.lean ====
section
/-! DEFINITION. The named values and the records the station's blocks hold. -/

namespace Sys2Proof.Machine

/-- The station state (R179). -/
inductive StationState where
  | configuring | configFault | listening | active | silenced
  deriving DecidableEq, Repr

/-- A channel's mode (R53). -/
inductive ChannelMode where
  | level | generator | carrier
  deriving DecidableEq, Repr

/-- A capture input's mode (R83). -/
inductive InputMode where
  | off | rising | falling | both | rise4 | rise16
  deriving DecidableEq, Repr

/-- What a schedule entry does to its channel (R25). -/
inductive Action where
  | setHigh | setLow | toggle | pulse | burst | startGen | stopGen | load
  deriving DecidableEq, Repr

/-- A generator's state (R54). -/
inductive GenState where
  | stopped | running | stopping
  deriving DecidableEq, Repr

/-- Why a channel is held (R73). -/
inductive HoldCause where
  | start | loss | restart | fault
  deriving DecidableEq, Repr

/-- The outcome a NOTICE reports (R49). -/
inductive NoticeOutcome where
  | done | dropped | replaced | cancelled | held
  deriving DecidableEq, Repr

/-- A reaction slot's last outcome (R110). -/
inductive LastOutcome where
  | none | armed | gated | unsynced | late | tooFar | kept | full
  deriving DecidableEq, Repr

/-- The result code of a command (R164). -/
inductive ResultCode where
  | ok | replaced | full | late | tooFar | badChannel | paired | badAction | badParam | unsynced
  | notFound | tagInUse
  deriving DecidableEq, Repr

/-- The kinds of command that a command record can hold (R115). -/
inductive CommandKind where
  | arm | cancel | setgen | react | control
  deriving DecidableEq, Repr

/-- A reaction's late policy (R106). -/
inductive LatePolicy where
  | fireNow | drop
  deriving DecidableEq, Repr

/-- A reaction's retrigger policy (R109). -/
inductive Retrigger where
  | replace | keep
  deriving DecidableEq, Repr

/-! ### Configured values (R52, R83, R200) -/

/-- The configured values of one channel (R52). -/
structure ChannelSettings where
  mode : ChannelMode
  invert : Bool
  holdOnLoss : Bool
  safe : Bool
  defaultPeriod : Word16
  defaultHigh : Word16
  deriving DecidableEq, Repr

/-- The configured values of one pair (R52). -/
structure PairSettings where
  enabled : Bool
  deadBand : Nat
  deriving DecidableEq, Repr

/-- The configured values of one capture input (R83). -/
structure InputSettings where
  mode : InputMode
  holdOff : Nat
  publish : Bool
  deriving DecidableEq, Repr

/-- The values the configuration image gives, in force outside CONFIGURING and CONFIG_FAULT (R200). -/
structure Settings where
  station : Nat
  rateCode : Nat
  settleMultiple : Nat
  listenTime : Nat
  lockWindow : Nat
  stepLimit : Nat
  silenceLimit : Nat
  lineDelay : Nat
  carrierHalf : Nat
  channels : Vector ChannelSettings 8
  pairs : Vector PairSettings 4
  inputs : Vector InputSettings 4
  deriving DecidableEq, Repr

/-! ### Schedule (R25) -/

/-- A repeat: its interval in ticks, and the remaining firings, `none` for endless (R25). -/
structure Repetition where
  interval : Nat
  remaining : Option Nat
  deriving DecidableEq, Repr

/-- A schedule entry (R25). `source` is `none` for COMMAND, a reaction slot otherwise. -/
structure Entry where
  origin : Nat
  tag : Word16
  channel : Fin 8
  action : Action
  param : Word16
  due : Time
  repetition : Option Repetition
  lockRequired : Bool
  notify : Option Nat
  source : Option (Fin 24)
  heldAtLast : Bool
  deriving DecidableEq, Repr

/-! ### Output channels (R54) -/

/-- A pulse in flight: its level, and its end in local time (R58). -/
structure Pulse where
  level : Bool
  stop : Time
  deriving DecidableEq, Repr

/-- A burst in flight: cycles remaining, whether the half is ACTIVE, the half's end in local time
(R59). -/
structure Burst where
  cycles : Nat
  activeHalf : Bool
  stop : Time
  deriving DecidableEq, Repr

/-- A generator's parameter set (R54). -/
structure GenSet where
  period : Word16
  high : Word16
  deriving DecidableEq, Repr

/-- The state of one output channel (R54). -/
structure Channel where
  latch : Bool
  pulse : Option Pulse
  burst : Option Burst
  gen : GenState
  activeSet : GenSet
  pendingSet : Option GenSet
  phaseHigh : Bool
  frameStart : Time
  highEnd : Time
  frameEnd : Time
  frameCount : Word16
  skipped : Word16
  hold : Option HoldCause
  deriving DecidableEq, Repr

/-- The drives of a pair's two channels while the pair is not held: the value D they follow, and the
expiry (local time) of a pending dead-band turn-on of the channel that D turns on (R71, R72). -/
structure PairDrive where
  d : Bool
  even : Bool
  odd : Bool
  turnOn : Option Time
  deriving DecidableEq, Repr

/-- A pair controller. `before` is the drive as it stood when D first changed in the moment (local
time) `moment`: several changes of D in one moment are one change from it (R72). -/
structure Pair where
  drive : PairDrive
  moment : Option Time
  before : PairDrive
  deriving DecidableEq, Repr

/-! ### Capture unit (R83 to R96) -/

/-- The state of one capture input: its last sampled level (R93), its prescale count (R85), the end
of the hold-off in flight (R86), its suppressed-edges counter (R96), and whether this tick's sample has
been taken, as an edge or as the reference: one sample falls in each tick (R84, log entry 14). -/
structure CaptureInput where
  level : Bool
  prescale : Nat
  holdOffEnd : Option Time
  suppressed : Word16
  sampled : Bool
  deriving DecidableEq, Repr

/-- A capture record (R87). -/
structure CaptureRecord where
  input : Fin 4
  edge : Edge
  time : Time
  number : Word16
  sync : SyncState
  deriving DecidableEq, Repr

/-- A mark as the reaction table takes it (R90, R92). -/
structure Mark where
  source : Nat
  input : Fin 4
  edge : Edge
  time : Time
  number : Word16
  sync : SyncState
  deriving DecidableEq, Repr

/-! ### Reaction table (R97) -/

/-- A reaction. `source` and `input` are `none` for ANY, `edge` is `none` for EITHER (R97). -/
structure Reaction where
  source : Option Nat
  input : Option (Fin 4)
  edge : Option Edge
  gate : Option (Fin 4 × Bool)
  channel : Fin 8
  action : Action
  param : Word16
  delay : Nat
  repetition : Option Repetition
  lockRequired : Bool
  latePolicy : LatePolicy
  retrigger : Retrigger
  notify : Option Nat
  tag : Word16
  installer : Nat
  hits : Word16
  lastOutcome : LastOutcome
  deriving DecidableEq, Repr

/-! ### Peers (R115) -/

/-- A command record (R115). -/
structure CommandRecord where
  kind : CommandKind
  sequence : BitVec 4
  code : ResultCode
  detail : Word16
  deriving DecidableEq, Repr

/-- A peer entry (R115). The sample is two's complement (R193). -/
structure Peer where
  station : Nat
  sample : Time
  age : Nat
  reported : SyncState
  silence : Nat
  record : Option CommandRecord
  deriving DecidableEq, Repr

/-! ### Transmit queue (R148) -/

/-- The kinds of frame the station sends (R148). -/
inductive TxKind where
  | reply | report | notice | mark | hello | stamp
  deriving DecidableEq, Repr

/-- A frame in the transmit queue (R148). -/
structure TxFrame where
  kind : TxKind
  destination : Nat
  sequence : BitVec 4
  payload : List Byte
  age : Nat
  attempts : Nat
  onLine : Bool
  restartReply : Bool
  deriving DecidableEq, Repr

/-! ### Line interface (R132) -/

/-- The condition of the line interface (R132). -/
inductive LineCondition where
  | off | quiet | busy | sending | breaking
  deriving DecidableEq, Repr

/-- The line interface. -/
structure LineInterface where
  condition : LineCondition
  /-- The stretch in progress is not received: it was under way at the start of listening (R137) or
  holds the station's own attempt (R141). -/
  passedOver : Bool
  /-- A break was heard in the stretch being received (R133). -/
  breakNoted : Bool
  /-- The local time latched at the stamp point of an incoming frame (R5). -/
  latched : Option Time
  /-- The quiet count, void while the line is not quiet (R132). -/
  quietCount : Option Nat
  /-- The local time of the next quiet count step. -/
  nextStep : Time
  /-- The deferral target, in gap units (R138). -/
  target : Option Nat
  /-- The backoff held, in gap units (R143). -/
  backoff : Option (BitVec 3)
  /-- The local time at which the transmission in progress began (R140, R193). -/
  sendStart : Time
  /-- The line time and sync state inserted at the stamp point of the attempt in progress (R4). -/
  stamped : Option (Time × SyncState)
  /-- The local time at which the break being driven ends (R142, R145). -/
  breakEnd : Time
  deriving DecidableEq, Repr

/-! ### Counters (R199) -/

/-- The counters of R199 that are not held in a channel, an input or a slot. -/
structure Counters where
  clampedCorrections : Word16 := 0
  lossesOfLock : Word16 := 0
  largeSteps : Word16 := 0
  armsRefused : Word16 := 0
  dropped : Word16 := 0
  repeatsSkipped : Word16 := 0
  fired : Word16 := 0
  pulsesCut : Word16 := 0
  burstsCut : Word16 := 0
  framesSkipped : Word16 := 0
  generatorRestarts : Word16 := 0
  logOverruns : Word16 := 0
  badMarks : Word16 := 0
  reactionsGated : Word16 := 0
  reactionsUnsynced : Word16 := 0
  reactionsLate : Word16 := 0
  reactionsTooFar : Word16 := 0
  reactionsKept : Word16 := 0
  reactionsFull : Word16 := 0
  cleanFrames : Word16 := 0
  crcErrors : Word16 := 0
  malformed : Word16 := 0
  broken : Word16 := 0
  collisions : Word16 := 0
  abandoned : Word16 := 0
  foreignAnswers : Word16 := 0
  lostReplies : Word16 := 0
  lostNotices : Word16 := 0
  lostMarks : Word16 := 0
  lostAnnouncements : Word16 := 0
  setAside : Word16 := 0
  duplicates : Word16 := 0
  payloadRefusals : Word16 := 0
  deriving DecidableEq, Repr

end Sys2Proof.Machine
end

