-- ==== Sys2Proof/Machine/Formats.lean ====
section
/-! DEFINITION. Frame and image formats (chapter 11): bytes and bits, the CRC, the code tables, and
the reading of a stretch of bit cells. -/

namespace Sys2Proof.Machine

/-! ### Bytes and bits (R193) -/

/-- A byte's bits, most significant first. -/
def byteBits (b : Byte) : List Bool :=
  [b.getLsbD 7, b.getLsbD 6, b.getLsbD 5, b.getLsbD 4, b.getLsbD 3, b.getLsbD 2, b.getLsbD 1, b.getLsbD 0]

/-- The bits of a run of bytes, in the order they are sent. -/
def bytesBits : List Byte → List Bool
  | [] => []
  | b :: rest => byteBits b ++ bytesBits rest

/-- The byte of eight bits, most significant first. -/
def byteOfBits (a b c d e f g h : Bool) : Byte :=
  BitVec.ofBool a ++ BitVec.ofBool b ++ BitVec.ofBool c ++ BitVec.ofBool d ++
    BitVec.ofBool e ++ BitVec.ofBool f ++ BitVec.ofBool g ++ BitVec.ofBool h

/-- The whole bytes a run of bits holds; bits short of a byte are left out. -/
def bitsBytes : List Bool → List Byte
  | a :: b :: c :: d :: e :: f :: g :: h :: rest => byteOfBits a b c d e f g h :: bitsBytes rest
  | _ => []

/-- Two bytes, most significant first. -/
def bytes16 (x : Word16) : List Byte := [x.extractLsb' 8 8, x.extractLsb' 0 8]

/-- Four bytes, most significant first. -/
def bytes32 (x : Time) : List Byte :=
  [x.extractLsb' 24 8, x.extractLsb' 16 8, x.extractLsb' 8 8, x.extractLsb' 0 8]

/-- The byte that holds a number. -/
def byteOf (n : Nat) : Byte := BitVec.ofNat 8 n

/-- The bit that holds a yes or no. -/
def bitOf (b : Bool) : Nat := if b then 1 else 0

/-- The byte at an offset of a payload or image; 0 past the end. -/
def byteAt (p : List Byte) (n : Nat) : Byte := p.getD n 0

/-- The number at an offset. -/
def natAt (p : List Byte) (n : Nat) : Nat := (byteAt p n).toNat

/-- The 16-bit field at an offset. -/
def word16At (p : List Byte) (n : Nat) : Word16 := byteAt p n ++ byteAt p (n + 1)

/-- The 32-bit field at an offset. -/
def word32At (p : List Byte) (n : Nat) : Time :=
  byteAt p n ++ byteAt p (n + 1) ++ byteAt p (n + 2) ++ byteAt p (n + 3)

/-! ### CRC (R195) -/

/-- One bit into the CRC register. -/
def crcBit (r : Word16) (b : Bool) : Word16 :=
  if (r.msb ^^ b) then (r <<< 1) ^^^ 0x1021#16 else r <<< 1

/-- The CRC of a run of bytes. -/
def crc (bytes : List Byte) : Word16 := (bytesBits bytes).foldl crcBit 0xFFFF#16

/-! ### Codes (R196, R197) -/

/-- The code of a sync state (R20). -/
def syncCode : SyncState → Nat
  | .alone => 0
  | .acquiring => 1
  | .locked => 2
  | .adrift => 3

/-- The sync state in the low two bits of a byte; the upper bits are ignored (R194). -/
def syncOf (b : Byte) : SyncState :=
  if b.getLsbD 1 then (if b.getLsbD 0 then .adrift else .locked)
  else (if b.getLsbD 0 then .acquiring else .alone)

/-- The code of a frame kind (R196). -/
def kindCode : FrameKind → Nat
  | .hello => 1
  | .stamp => 2
  | .mark => 3
  | .arm => 4
  | .cancel => 5
  | .setgen => 6
  | .react => 7
  | .query => 8
  | .control => 9
  | .report => 10
  | .reply => 11
  | .notice => 12

/-- The frame kind of a code; codes 0 and 13 to 15 are malformed (R196). -/
def kindOf : Nat → Option FrameKind
  | 1 => some .hello
  | 2 => some .stamp
  | 3 => some .mark
  | 4 => some .arm
  | 5 => some .cancel
  | 6 => some .setgen
  | 7 => some .react
  | 8 => some .query
  | 9 => some .control
  | 10 => some .report
  | 11 => some .reply
  | 12 => some .notice
  | _ => none

/-- The payload lengths allowed for a kind (R196). -/
def lengthAllowed : FrameKind → Nat → Bool
  | .hello, n => n == 0
  | .stamp, n => n == 0
  | .mark, n => n == 9
  | .arm, n => n == 12 || n == 18
  | .cancel, n => n == 2 || n == 4
  | .setgen, n => n == 5
  | .react, n => n == 2 || n == 27
  | .query, n => n == 2
  | .control, n => n == 1 || n == 2
  | .report, n => decide (4 ≤ n) && decide (n ≤ 32)
  | .reply, n => n == 6
  | .notice, n => n == 9

/-- The code of a command's kind (R196). -/
def commandKindCode : CommandKind → Nat
  | .arm => 4
  | .cancel => 5
  | .setgen => 6
  | .react => 7
  | .control => 9

/-- The frame kind of a frame the station sends. -/
def TxKind.frameKind : TxKind → FrameKind
  | .reply => .reply
  | .report => .report
  | .notice => .notice
  | .mark => .mark
  | .hello => .hello
  | .stamp => .stamp

/-- The code of an edge (R197). -/
def edgeCode : Edge → Nat
  | .rise => 0
  | .fall => 1

/-- The edge of a code (R197). -/
def edgeOf : Nat → Option Edge
  | 0 => some .rise
  | 1 => some .fall
  | _ => none

/-- The code of an action (R197). -/
def actionCode : Action → Nat
  | .setHigh => 0
  | .setLow => 1
  | .toggle => 2
  | .pulse => 3
  | .burst => 4
  | .startGen => 5
  | .stopGen => 6
  | .load => 7

/-- The action of a code (R197). -/
def actionOf : Nat → Option Action
  | 0 => some .setHigh
  | 1 => some .setLow
  | 2 => some .toggle
  | 3 => some .pulse
  | 4 => some .burst
  | 5 => some .startGen
  | 6 => some .stopGen
  | 7 => some .load
  | _ => none

/-- The code of a NOTICE outcome (R197). -/
def noticeCode : NoticeOutcome → Nat
  | .done => 0
  | .dropped => 1
  | .replaced => 2
  | .cancelled => 3
  | .held => 4

/-- The code of a reaction's last outcome (R197). -/
def lastOutcomeCode : LastOutcome → Nat
  | .none => 0
  | .armed => 1
  | .gated => 2
  | .unsynced => 3
  | .late => 4
  | .tooFar => 5
  | .kept => 6
  | .full => 7

/-- The code of a hold cause, 0 for not held (R197). -/
def holdCode : Option HoldCause → Nat
  | none => 0
  | some .start => 1
  | some .loss => 2
  | some .restart => 3
  | some .fault => 4

/-- The code of a generator state (R197). -/
def genCode : GenState → Nat
  | .stopped => 0
  | .running => 1
  | .stopping => 2

/-- The code of a station state (R197). -/
def stationCode : StationState → Nat
  | .configuring => 0
  | .configFault => 1
  | .listening => 2
  | .active => 3
  | .silenced => 4

/-- The code of a channel mode (R198). -/
def modeCode : ChannelMode → Nat
  | .level => 0
  | .generator => 1
  | .carrier => 2

/-- The channel mode of a code; code 3 is out of range (R200). -/
def modeOf : Nat → Option ChannelMode
  | 0 => some .level
  | 1 => some .generator
  | 2 => some .carrier
  | _ => none

/-- The input mode of a code; codes 6 and 7 are out of range (R200). -/
def inputModeOf : Nat → Option InputMode
  | 0 => some .off
  | 1 => some .rising
  | 2 => some .falling
  | 3 => some .both
  | 4 => some .rise4
  | 5 => some .rise16
  | _ => none

/-- The number of a result code (R197). -/
def resultNumber : ResultCode → Nat
  | .ok => 0
  | .replaced => 1
  | .full => 2
  | .late => 3
  | .tooFar => 4
  | .badChannel => 5
  | .paired => 6
  | .badAction => 7
  | .badParam => 8
  | .unsynced => 9
  | .notFound => 10
  | .tagInUse => 11

/-! ### The frame on the line (R131, R193, R196) -/

/-- The start pattern's 16 cells. -/
def startPattern : List Bool := bytesBits [0x55#8, 0x57#8]

/-- The end pattern's 8 cells. -/
def endPattern : List Bool := bytesBits [0x3D#8]

/-- The nine header bytes. -/
def headerBytes (sender destination : Nat) (kind : FrameKind) (sequence : BitVec 4) (sync : SyncState)
    (stamp : Time) (length : Nat) : List Byte :=
  [byteOf sender, byteOf destination, BitVec.ofNat 4 (kindCode kind) ++ sequence, byteOf (syncCode sync)]
    ++ bytes32 stamp ++ [byteOf length]

/-- The cells of a whole frame: start pattern, header, payload, CRC, end pattern (R131). -/
def frameCells (kind : FrameKind) (f : Frame) : List Bool :=
  let body := headerBytes f.sender f.destination kind f.sequence f.sync f.stamp f.payload.length ++ f.payload
  startPattern ++ bytesBits (body ++ bytes16 (crc body)) ++ endPattern

/-- The halves of a bit's cell, true for dominant: a 1 is idle and then dominant, a 0 dominant and then
idle (R130). -/
def cellHalves (b : Bool) : List Bool := [!b, b]

/-! ### Judging a stretch (R133 to R135) -/

/-- The class of a received stretch (R134). -/
inductive StretchClass where
  | broken
  | crcError
  | malformed
  | clean (kind : FrameKind) (frame : Frame)
  deriving DecidableEq, Repr

/-- The header tests of a complete frame whose CRC matches (R135). -/
def judgeHeader (header payload : List Byte) : StretchClass :=
  match kindOf ((byteAt header 2).extractLsb' 4 4).toNat with
  | none => .malformed
  | some kind =>
    if 1 ≤ natAt header 0 ∧ natAt header 0 ≤ 30 ∧ 1 ≤ natAt header 1 ∧ natAt header 1 ≤ 31 ∧
        lengthAllowed kind payload.length = true then
      .clean kind
        { sender := natAt header 0
          destination := natAt header 1
          sequence := (byteAt header 2).extractLsb' 0 4
          sync := syncOf (byteAt header 3)
          stamp := word32At header 4
          payload := payload }
    else .malformed

/-- The judgement of what follows a good start pattern: header, payload, CRC and end pattern, and
nothing `more` after it. -/
def judgeBody (rest : List Bool) (more : Bool) : StretchClass :=
  let header := bitsBytes (rest.take 72)
  let length := natAt header 8
  if rest.length < 72 then .broken
  else if 32 < length then .malformed
  else if rest.length ≠ 72 + 8 * length + 16 + 8 ∨ more = true then .broken
  else if rest.drop (72 + 8 * length + 16) ≠ endPattern then .broken
  else
    let payload := bitsBytes ((rest.drop 72).take (8 * length))
    let sent := bitsBytes ((rest.drop (72 + 8 * length)).take 16)
    if sent ≠ bytes16 (crc (header ++ payload)) then .crcError
    else judgeHeader header payload

/-- The class of a received stretch, in the order of R134: whether a break was heard, the cells read
from the first edge on, and whether activity that is no bit cell came after them. Such activity leaves
the frame without what it would have held there, or follows its end pattern (R133, log entry 10). -/
def judge (breakNoted : Bool) (cells : List Bool) (more : Bool) : StretchClass :=
  if breakNoted then .broken
  else if cells.take 16 ≠ startPattern then .broken
  else judgeBody (cells.drop 16) more

end Sys2Proof.Machine
end

