-- ==== Sys2Proof/Machine/State.lean ====
section
/-! DEFINITION. The state of the station, what can stop a step, and the state after reset. -/

namespace Sys2Proof.Machine

/-- The station's state: plain data, every block's (section 3 of the manual's introduction). -/
structure State where
  /-- The commands that are waiting, first in, first out. -/
  pending : List Instr
  -- Station control (R179, R180)
  station : StationState
  listenCount : Nat
  restartPending : Bool
  /-- RESET_N is held low (R180). -/
  resetHeld : Bool
  /-- The configuration loader's read is in progress (R181). -/
  reading : Bool
  /-- The image bits the loader has clocked in and holds during the read, the first one first (R181). -/
  imageBits : List Bool
  /-- What the configuration memory outside gives on CFG_DIN in this read (log entry 7). -/
  cfgMemory : List Byte
  /-- The values the image gave. Not in force in CONFIGURING and CONFIG_FAULT. -/
  settings : Settings
  -- Line time unit (R1, R2, R7, R10, section 1.4)
  localTime : Time
  correction : Time
  sync : SyncState
  lockCount : Nat
  driftCount : Nat
  lastDelta : Time
  /-- The local time of the next expiry of the settle timer; absent while it is stopped (R7). -/
  settleNext : Option Time
  -- Schedule (R26, R27), in schedule order
  schedule : List Entry
  -- Output channels and pair controllers (R54, R71)
  channels : Vector Channel 8
  pairs : Vector Pair 4
  -- Capture unit (R88, R89, R93); the log's oldest record first
  inputs : Vector CaptureInput 4
  /-- The levels the equipment drives on the pins CI0 to CI3 (log entry 7). -/
  inputPins : Vector Bool 4
  captureLog : List CaptureRecord
  markNumber : Word16
  -- Reaction table (R97)
  slots : Vector (Option Reaction) 24
  -- Roster controller (R115, R121); the roster's front first
  peers : List Peer
  roster : List Nat
  -- Line interface (R132)
  line : LineInterface
  -- Transmit queue (R148, R153), in queue order
  queue : List TxFrame
  finished : Bool
  /-- The age the next arriving frame takes (R148). -/
  nextAge : Nat
  /-- The model's own: inside a step overtaken by the entry into SILENCED, the age from which on arriving frames
  find the queue emptied (R158). Absent between steps. -/
  queueShutFrom : Option Nat
  -- Counters (R199)
  counters : Counters
  /-- The model's own: how many free values have been drawn. -/
  draws : Nat
  deriving DecidableEq, Repr

/-- Why the station stops. The manual names no event at which it does. -/
inductive Fault where
  /-- Raised by no command of the model: the manual gives every event of the table an effect. Safe. -/
  | halted
  deriving DecidableEq, Repr

/-- Why a command has no meaning. -/
inductive Refusal where
  /-- Raised by an arm of `exec` that has no meaning yet; none is left. Safe. -/
  | notModelled (mnemonic : String)
  /-- Raised by every meaning with operands for a term that names no command of the block: a frame
  that R135 calls malformed, so that the line interface never hands it on, a memory that does not give
  96 bytes, an overtaken step with such a frame, an order that is no order of the settle acts, or a payload
  code that belongs to another row.
  `WellFormed.lean` says which terms. Safe. -/
  | illFormed
  deriving DecidableEq, Repr

/-- The settings while none are in force. DESIGN CHOICE, log entry 5: nothing reads them. -/
def Settings.blank : Settings where
  station := 0
  rateCode := 0
  settleMultiple := 0
  listenTime := 0
  lockWindow := 0
  stepLimit := 0
  silenceLimit := 0
  lineDelay := 0
  carrierHalf := 0
  channels := Vector.replicate 8 ⟨.level, false, false, false, 0, 0⟩
  pairs := Vector.replicate 4 ⟨false, 0⟩
  inputs := Vector.replicate 4 ⟨.off, 0, false⟩

/-- A channel before configuration: its state is discarded (R81). DESIGN CHOICE, log entry 5. -/
def Channel.blank : Channel where
  latch := false
  pulse := none
  burst := none
  gen := .stopped
  activeSet := ⟨0, 0⟩
  pendingSet := none
  phaseHigh := false
  frameStart := 0
  highEnd := 0
  frameEnd := 0
  frameCount := 0
  skipped := 0
  hold := none

/-- A pair controller with both drives at 0 and nothing pending. -/
def Pair.blank : Pair where
  drive := ⟨false, false, false, none⟩
  moment := none
  before := ⟨false, false, false, none⟩

/-- The line interface after power-on and RESET_N (R147). -/
def LineInterface.blank : LineInterface where
  condition := .off
  passedOver := false
  breakNoted := false
  latched := none
  quietCount := none
  nextStep := 0
  target := none
  backoff := none
  sendStart := 0
  stamped := none
  breakEnd := 0

/-- The station right after reset: RESET_N held low, CONFIGURING, every block in its initial state
(R23, R51, R81, R95, R114, R128, R147, R158, R178, R179, R180). -/
def State.reset : State where
  pending := []
  station := .configuring
  listenCount := 0
  restartPending := false
  resetHeld := true
  reading := false
  imageBits := []
  cfgMemory := []
  settings := Settings.blank
  localTime := 0
  correction := 0
  sync := .alone
  lockCount := 0
  driftCount := 0
  lastDelta := 0
  settleNext := none
  schedule := []
  channels := Vector.replicate 8 Channel.blank
  pairs := Vector.replicate 4 Pair.blank
  inputs := Vector.replicate 4 ⟨false, 0, none, 0, false⟩
  inputPins := Vector.replicate 4 false
  captureLog := []
  markNumber := 0
  slots := Vector.replicate 24 none
  peers := []
  roster := []
  line := LineInterface.blank
  queue := []
  finished := false
  nextAge := 0
  queueShutFrom := none
  counters := {}
  draws := 0

end Sys2Proof.Machine
end

