-- ==== Sys2Proof/Machine/Moments.lean ====
section
/-! DEFINITION. The arithmetic of moments and durations (section 1.1), and of counters. -/

namespace Sys2Proof.Machine

/-- The forward distance from `a` to `b`: (B − A) mod 2^32 (R3). -/
def forward (a b : Time) : Nat := (b - a).toNat

/-- The moment `t` is reached at line time (or local time) `now`: its forward distance is 0 or is
2^31 or more (R3). -/
def isReached (now t : Time) : Bool := forward now t == 0 || decide (2147483648 ≤ forward now t)

/-- The signed difference B − A (R3). -/
def signedDiff (a b : Time) : Int := (b - a).toInt

/-- The moment `n` ticks after `t`, modulo 2^32. -/
def later (t : Time) (n : Nat) : Time := t + BitVec.ofNat 32 n

/-- The horizon (section 4 of the introduction). -/
def horizon : Nat := 50000000

/-- The schedule reach limit (R27). -/
def reachLimit : Nat := 100000000

/-- The change is a large step (R19). -/
def isLarge (change : Int) : Bool := decide ((horizon : Int) < change) || decide (change < -(horizon : Int))

/-- A station is in lock while LOCKED or ADRIFT (section 1.4). -/
def syncInLock : SyncState → Bool
  | .locked | .adrift => true
  | .alone | .acquiring => false

/-- A counter is a 16-bit event count that stops at 65,535 (R22): `n` events more. -/
def bumpBy (n : Nat) (k : Word16) : Word16 := BitVec.ofNat 16 (min (k.toNat + n) 65535)

/-- One event more. -/
def bump (k : Word16) : Word16 := bumpBy 1 k

/-- Line time: local time plus the correction, modulo 2^32 (R2). -/
def State.lineTime (s : State) : Time := s.localTime + s.correction

/-- The station is in lock (section 1.4). -/
def State.inLock (s : State) : Bool := syncInLock s.sync

/-- A local-time moment has been reached (R1). -/
def State.localReached (s : State) (t : Time) : Bool := isReached s.localTime t

/-- A line-time moment has been reached (R3). -/
def State.lineReached (s : State) (t : Time) : Bool := isReached s.lineTime t

/-- How far ahead of the present line time a moment lies (R3). -/
def State.aheadBy (s : State) (t : Time) : Nat := forward s.lineTime t

/-- The ticks of one settle interval: 100,000 times the settle multiple (R7). -/
def Settings.settleInterval (g : Settings) : Nat := 100000 * g.settleMultiple

/-- The ticks of one gap unit, 8 bit times at 1, 2, 4 or 8 Mbit/s (R130). -/
def Settings.gapTicks (g : Settings) : Nat := 80 / 2 ^ g.rateCode

/-- The ticks the configuration read lasts (R181). -/
def configReadTicks : Time := 3168

/-- The counters change, and nothing else. -/
def State.count (f : Counters → Counters) (s : State) : State := { s with counters := f s.counters }

end Sys2Proof.Machine
end

