-- ==== Sys2Proof/Machine/Operands.lean ====
section
/-! DEFINITION. The operands of the commands: the payload layouts of R197 with the payload check of
R163, the MARK payload of R92, and the configuration image of R182, R183 and R200. -/

namespace Sys2Proof.Machine

/-! ### ARM (R165, R197) -/

/-- The fields of an ARM, its channel as it stands. A repeat is its interval and its count, 0 for
endless. -/
structure ArmRequest where
  channel : Nat
  action : Action
  param : Word16
  due : Time
  tag : Word16
  lock : Bool
  confirm : Bool
  lateOk : Bool
  repetition : Option (Nat × Nat)
  deriving DecidableEq, Repr

/-- The payload check of an ARM (R163): the action's code is defined, no undefined flag bit is set,
and the length fits the repeat-present flag. -/
def parseArm (p : List Byte) : Option ArmRequest :=
  match actionOf (natAt p 1) with
  | none => none
  | some action =>
    let flags := word16At p 2
    let repeats := flags.getLsbD 3
    if flags.toNat < 16 ∧ p.length = (if repeats then 18 else 12) then
      some
        { channel := natAt p 0
          action := action
          param := word16At p 4
          due := word32At p 6
          tag := word16At p 10
          lock := flags.getLsbD 0
          confirm := flags.getLsbD 1
          lateOk := flags.getLsbD 2
          repetition := if repeats then some ((word32At p 12).toNat, (word16At p 16).toNat) else none }
    else none

/-! ### CANCEL (R166, R197) -/

/-- The payload check of a CANCEL by tag: form 0, 4 bytes, an origin 1..30 (R163). -/
def parseCancelByTag (p : List Byte) : Option (Nat × Word16) :=
  if natAt p 0 = 0 ∧ p.length = 4 ∧ 1 ≤ natAt p 1 ∧ natAt p 1 ≤ 30 then some (natAt p 1, word16At p 2) else none

/-- The payload check of a CANCEL by channel: form 1, 2 bytes. -/
def parseCancelByChannel (p : List Byte) : Option Nat :=
  if natAt p 0 = 1 ∧ p.length = 2 then some (natAt p 1) else none

/-! ### SETGEN (R167, R197) -/

/-- The fields of a SETGEN. -/
structure SetgenRequest where
  channel : Nat
  set : GenSet
  deriving DecidableEq, Repr

/-- The payload of a SETGEN; its length is its kind's only one. -/
def parseSetgen (p : List Byte) : SetgenRequest := ⟨natAt p 0, ⟨word16At p 1, word16At p 3⟩⟩

/-! ### REACT (R168, R197) -/

/-- The fields of a REACT INSTALL as they stand. `edge` is `none` for EITHER. A repeat is its
interval and its count, 0 for endless. -/
structure InstallRequest where
  slot : Nat
  source : Nat
  input : Nat
  edge : Option Edge
  gateInput : Nat
  gateLevel : Nat
  channel : Nat
  action : Action
  param : Word16
  delay : Nat
  repetition : Option (Nat × Nat)
  lockRequired : Bool
  latePolicy : LatePolicy
  retrigger : Retrigger
  notify : Nat
  tag : Word16
  deriving DecidableEq, Repr

/-- The edge field of a reaction: RISE, FALL or EITHER (R197). -/
def reactionEdgeOf : Nat → Option (Option Edge)
  | 0 => some (some .rise)
  | 1 => some (some .fall)
  | 2 => some none
  | _ => none

/-- The late policy of a code (R197). -/
def latePolicyOf : Nat → Option LatePolicy
  | 0 => some .fireNow
  | 1 => some .drop
  | _ => none

/-- The retrigger policy of a code (R197). -/
def retriggerOf : Nat → Option Retrigger
  | 0 => some .replace
  | 1 => some .keep
  | _ => none

/-- The payload check of a REACT INSTALL: operation 0, 27 bytes, defined edge, action, late policy
and retrigger codes, and no undefined flag bit (R163). -/
def parseInstall (p : List Byte) : Option InstallRequest :=
  match reactionEdgeOf (natAt p 4), actionOf (natAt p 8), latePolicyOf (natAt p 22), retriggerOf (natAt p 23) with
  | some edge, some action, some latePolicy, some retrigger =>
    let flags := byteAt p 21
    if natAt p 0 = 0 ∧ p.length = 27 ∧ flags.toNat < 4 then
      some
        { slot := natAt p 1
          source := natAt p 2
          input := natAt p 3
          edge := edge
          gateInput := natAt p 5
          gateLevel := natAt p 6
          channel := natAt p 7
          action := action
          param := word16At p 9
          delay := (word32At p 11).toNat
          repetition :=
            if flags.getLsbD 1 then some ((word32At p 15).toNat, (word16At p 19).toNat) else none
          lockRequired := flags.getLsbD 0
          latePolicy := latePolicy
          retrigger := retrigger
          notify := natAt p 24
          tag := word16At p 25 }
    else none
  | _, _, _, _ => none

/-- The payload check of a REACT REMOVE: operation 1, 2 bytes. -/
def parseRemove (p : List Byte) : Option Nat :=
  if natAt p 0 = 1 ∧ p.length = 2 then some (natAt p 1) else none

/-! ### CONTROL (R172, R197) -/

/-- The payload check of a CONTROL RELEASE_HOLD: operation 0, 2 bytes. -/
def parseReleaseHold (p : List Byte) : Option Byte :=
  if natAt p 0 = 0 ∧ p.length = 2 then some (byteAt p 1) else none

/-- The payload check of a CONTROL CLEAR_COUNTERS: operation 1, 1 byte. -/
def clearCountersFits (p : List Byte) : Bool := natAt p 0 == 1 && p.length == 1

/-- The payload check of a CONTROL FLUSH_SCHEDULE: operation 2, 2 bytes, a defined scope. True
for ALL. -/
def parseFlush (p : List Byte) : Option Bool :=
  if natAt p 0 = 2 ∧ p.length = 2 ∧ natAt p 1 ≤ 1 then some (natAt p 1 == 1) else none

/-- The payload check of a CONTROL RESTART: operation 3, 1 byte. -/
def restartFits (p : List Byte) : Bool := natAt p 0 == 3 && p.length == 1

/-! ### MARK (R92, R197) -/

/-- The mark a MARK payload of this source carries, unless it is a bad mark (R92). -/
def parseMark (source : Nat) (p : List Byte) : Option Mark :=
  match edgeOf (natAt p 1) with
  | none => none
  | some edge =>
    if h : natAt p 0 < 4 then
      some
        { source := source
          input := ⟨natAt p 0, h⟩
          edge := edge
          time := word32At p 2
          number := word16At p 6
          sync := syncOf (byteAt p 8) }
    else none

/-! ### The configuration image (R182, R183, R200) -/

/-- The sum of all bytes of the image, modulo 256 (R182). -/
def imageSum (image : List Byte) : Byte := image.foldl (· + ·) 0

/-- The offset of a channel's block (R200). -/
def channelOffset (c : Fin 8) : Nat := 13 + 5 * c.val

/-- The offset of a pair's block (R200). -/
def pairOffset (p : Fin 4) : Nat := 53 + 2 * p.val

/-- The offset of an input's block (R200). -/
def inputOffset (i : Fin 4) : Nat := 61 + 3 * i.val

/-- A number in a range, both ends included. -/
def inRange (low n high : Nat) : Bool := decide (low ≤ n) && decide (n ≤ high)

/-- The range and zero-bit tests of a channel block: mode code, bits 7 to 5, default period (R182). -/
def channelBlockFits (image : List Byte) (c : Fin 8) : Bool :=
  let flags := byteAt image (channelOffset c)
  (modeOf (flags.extractLsb' 0 2).toNat).isSome && decide (flags.toNat < 32) &&
    inRange 2 (word16At image (channelOffset c + 1)).toNat 65535

/-- The range and zero-bit tests of an input block: mode code, bits 7 to 4 (R182). -/
def inputBlockFits (image : List Byte) (i : Fin 4) : Bool :=
  let flags := byteAt image (inputOffset i)
  (inputModeOf (flags.extractLsb' 0 3).toNat).isSome && decide (flags.toNat < 16)

/-- The tests of R182: magic, version, sum, ranges, and a 0 in every bit assigned to no field. -/
def imageInRange (image : List Byte) : Bool :=
  byteAt image 0 == 0xA7#8 && byteAt image 1 == 1#8 && imageSum image == 0#8 &&
    inRange 1 (natAt image 2) 30 && inRange 0 (natAt image 3) 3 && inRange 1 (natAt image 4) 100 &&
    inRange 1 (natAt image 5) 255 && inRange 1 (natAt image 6) 255 &&
    inRange 1 (word16At image 7).toNat 1000 && inRange 2 (natAt image 9) 250 &&
    inRange 2 (word16At image 11).toNat 4095 &&
    (List.finRange 8).all (channelBlockFits image) &&
    (List.finRange 4).all (fun p => inRange 0 (natAt image (pairOffset p)) 1) &&
    (List.finRange 4).all (inputBlockFits image) &&
    (List.range 22).all (fun n => byteAt image (73 + n) == 0#8)

/-- The configured values of a channel, read from its block (R200). -/
def channelSettings (image : List Byte) (c : Fin 8) : ChannelSettings :=
  let flags := byteAt image (channelOffset c)
  { mode := (modeOf (flags.extractLsb' 0 2).toNat).getD .level
    invert := flags.getLsbD 2
    holdOnLoss := flags.getLsbD 3
    safe := flags.getLsbD 4
    defaultPeriod := word16At image (channelOffset c + 1)
    defaultHigh := word16At image (channelOffset c + 3) }

/-- The configured values of a pair, read from its block (R200). -/
def pairSettings (image : List Byte) (p : Fin 4) : PairSettings :=
  { enabled := byteAt image (pairOffset p) == 1#8
    deadBand := natAt image (pairOffset p + 1) }

/-- The configured values of an input, read from its block (R200). -/
def inputSettings (image : List Byte) (i : Fin 4) : InputSettings :=
  let flags := byteAt image (inputOffset i)
  { mode := (inputModeOf (flags.extractLsb' 0 3).toNat).getD .off
    holdOff := (word16At image (inputOffset i + 1)).toNat
    publish := flags.getLsbD 3 }

/-- The values of an image (R200). -/
def imageSettings (image : List Byte) : Settings where
  station := natAt image 2
  rateCode := natAt image 3
  settleMultiple := natAt image 4
  listenTime := natAt image 5
  lockWindow := natAt image 6
  stepLimit := (word16At image 7).toNat
  silenceLimit := natAt image 9
  lineDelay := natAt image 10
  carrierHalf := (word16At image 11).toNat
  channels := Vector.ofFn (channelSettings image)
  pairs := Vector.ofFn (pairSettings image)
  inputs := Vector.ofFn (inputSettings image)

/-- The even channel of a pair. -/
def evenOf (p : Fin 4) : Fin 8 := ⟨2 * p.val, by omega⟩

/-- The odd channel of a pair. -/
def oddOf (p : Fin 4) : Fin 8 := ⟨2 * p.val + 1, by omega⟩

/-- The tests of R183: no default high above its period, and no enabled pair with a CARRIER even
channel or with two safe values of 1. -/
def settingsConsistent (g : Settings) : Bool :=
  (List.finRange 8).all (fun c => decide (g.channels[c].defaultHigh.toNat ≤ g.channels[c].defaultPeriod.toNat)) &&
    (List.finRange 4).all (fun p =>
      !g.pairs[p].enabled ||
        (g.channels[evenOf p].mode != .carrier && !(g.channels[evenOf p].safe && g.channels[oddOf p].safe)))

/-- The image passes every test (R182, R183). -/
def imagePasses (image : List Byte) : Bool := imageInRange image && settingsConsistent (imageSettings image)

end Sys2Proof.Machine
end

