-- ==== Sys2Proof/Machine/Channels.lean ====
section
/-! DEFINITION. The output channels (chapter 3): drives and pins, the actions, generator frames, the
pair controllers and the dead band, holds. -/

namespace Sys2Proof.Machine

/-! ### Pairs, holds and drives -/

/-- The pair a channel belongs to. -/
def pairOf (c : Fin 8) : Fin 4 := ⟨c.val / 2, by omega⟩

/-- The channel is the odd one of its two. -/
def isOdd (c : Fin 8) : Bool := c.val % 2 == 1

/-- The channel's pair is enabled (R52). -/
def State.isPaired (s : State) (c : Fin 8) : Bool := s.settings.pairs[pairOf c].enabled

/-- The channel is the odd channel of an enabled pair: commands naming it are refused PAIRED (R30). -/
def State.isPairOdd (s : State) (c : Fin 8) : Bool := isOdd c && s.isPaired c

/-- The channel whose hold and whose hold-on-loss flag decide for this one: the even channel of an
enabled pair, and otherwise the channel itself (R73). -/
def State.holder (s : State) (c : Fin 8) : Fin 8 := if s.isPaired c then evenOf (pairOf c) else c

/-- The channel, or the pair it belongs to, is held (R55). -/
def State.isHeld (s : State) (c : Fin 8) : Bool := s.channels[s.holder c].hold.isSome

/-- The channel is configured to hold on loss (R73). -/
def State.holdsOnLoss (s : State) (c : Fin 8) : Bool := s.settings.channels[s.holder c].holdOnLoss

/-- The value that priorities 2 to 5 of R55 give: pulse, burst, generator, latch. -/
def Channel.baseDrive (ch : Channel) : Bool :=
  match ch.pulse, ch.burst, ch.gen with
  | some p, _, _ => p.level
  | none, some b, _ => b.activeHalf
  | none, none, .running => ch.phaseHigh
  | none, none, .stopping => ch.phaseHigh
  | none, none, .stopped => ch.latch

/-- The channel's drive value (R55, R71). -/
def State.drive (s : State) (c : Fin 8) : Bool :=
  if s.isHeld c then s.settings.channels[c].safe
  else if s.isPaired c then
    (if isOdd c then s.pairs[pairOf c].drive.odd else s.pairs[pairOf c].drive.even)
  else s.channels[c].baseDrive

/-- The level of a CO pin: low in CONFIGURING and CONFIG_FAULT, and otherwise the drive value
exclusive-ORed with the invert flag (R55, R78). -/
def State.pin (s : State) (c : Fin 8) : Bool :=
  match s.station with
  | .configuring | .configFault => false
  | .listening | .active | .silenced => s.drive c ^^ s.settings.channels[c].invert

/-! ### The pair controller (R71, R72, R77) -/

/-- The drives from a change of D to `d` on: the channel to go to 0 is there, and the other turns on
after one dead band, at once for a dead band of 0 (R72). -/
def PairDrive.turnTo (d : Bool) (now : Time) (deadBand : Nat) : PairDrive :=
  if deadBand = 0 then ⟨d, d, !d, none⟩ else ⟨d, false, false, some (later now deadBand)⟩

/-- The pair controller follows D: several changes of D in one moment are one change from the value
before them, and no change if the value is the same (R72). -/
def Pair.follow (d : Bool) (now : Time) (deadBand : Nat) (p : Pair) : Pair :=
  let base := if p.moment = some now then p.before else p.drive
  if d = base.d then { p with drive := base }
  else { drive := PairDrive.turnTo d now deadBand, moment := some now, before := base }

/-- Both drives at 0, and a turn-on for the channel whose drive must be 1 (R77). -/
def Pair.release (d : Bool) (now : Time) (deadBand : Nat) : Pair :=
  { drive := PairDrive.turnTo d now deadBand, moment := none, before := ⟨d, false, false, none⟩ }

/-- The end of a pending turn-on: the channel D turns on goes to 1 (R72). -/
def PairDrive.expire (v : PairDrive) : PairDrive :=
  if v.turnOn.isSome then { v with even := v.d, odd := !v.d, turnOn := none } else v

/-- The expiry, also for the drive that a further change of D in this moment would start from. -/
def Pair.expire (now : Time) (p : Pair) : Pair :=
  { p with
    drive := p.drive.expire
    before := if p.before.turnOn.any (isReached now) then p.before.expire else p.before }

/-- Entering hold cancels a pending turn-on (R74). -/
def Pair.cancel (p : Pair) : Pair :=
  { drive := ⟨p.drive.d, false, false, none⟩, moment := none, before := ⟨p.drive.d, false, false, none⟩ }

/-- D of a pair: what priorities 2 to 5 give its even channel (R71). -/
def State.pairD (s : State) (p : Fin 4) : Bool := s.channels[evenOf p].baseDrive

/-- Every enabled pair that is not held follows its D (R71, R75). -/
def State.followPairs (s : State) : State :=
  { s with
    pairs := Vector.ofFn fun p =>
      if s.settings.pairs[p].enabled && !s.isHeld (evenOf p) then
        s.pairs[p].follow (s.pairD p) s.localTime s.settings.pairs[p].deadBand
      else s.pairs[p] }

/-! ### Generators (R61 to R70) -/

/-- The pending set, if present, becomes the active set (R61). -/
def Channel.takePending (ch : Channel) : Channel :=
  match ch.pendingSet with
  | none => ch
  | some g => { ch with activeSet := g, pendingSet := none }

/-- A frame of the active set starts at a line-time moment (R61). -/
def Channel.startFrame (start : Time) (ch : Channel) : Channel :=
  { ch with
    frameStart := start
    highEnd := later start ch.activeSet.high.toNat
    frameEnd := later start ch.activeSet.period.toNat
    phaseHigh := decide (0 < ch.activeSet.high.toNat) }

/-- The high end is reached: the phase moves to LOW (R64). -/
def Channel.endHigh (ch : Channel) : Channel := { ch with phaseHigh := false }

/-- The frame completes (R65). A high end that falls in the same moment is part of this event, so a generator
that stops here stops in its LOW phase (R64, R65); a forward step that passes both ends leaves it so too (R68,
DEDUCED, log entry 28). -/
def Channel.completeFrame (ch : Channel) : Channel :=
  let done := Channel.takePending { ch with frameCount := ch.frameCount + 1 }
  match ch.gen with
  | .running => done.startFrame ch.frameEnd
  | .stopping => { done.endHigh with gen := .stopped }
  | .stopped => ch

/-- The generator is RUNNING or STOPPING. -/
def Channel.generates (ch : Channel) : Bool := ch.gen != .stopped

/-- How many frames after the present one, of the active period, lie wholly in the past (R68). -/
def Channel.framesPassed (now : Time) (ch : Channel) : Nat :=
  forward ch.frameStart now / ch.activeSet.period.toNat

/-- The generator's frames after a completed frame, at a forward step: frames whose end is reached
are skipped, and the current one's phase is HIGH if its high end is ahead (R68). -/
def Channel.skipPassed (now : Time) (ch : Channel) : Channel :=
  let n := ch.framesPassed now
  let moved := ch.startFrame (later ch.frameStart (n * ch.activeSet.period.toNat))
  { moved with
    frameCount := ch.frameCount + BitVec.ofNat 16 n
    skipped := bumpBy n ch.skipped
    phaseHigh := !isReached now moved.highEnd }

/-- A generator at a forward step that is not large (R68): its state, and the frames it skipped. -/
def Channel.stepForward (now : Time) (ch : Channel) : Channel × Nat :=
  if !ch.generates then (ch, 0)
  else if isReached now ch.frameEnd then
    let done := ch.completeFrame
    if ch.gen == .running then (done.skipPassed now, done.framesPassed now) else (done, 0)
  else if ch.phaseHigh && isReached now ch.highEnd then (ch.endHigh, 0)
  else (ch, 0)

/-- Every generator at a forward step that is not large (R68). -/
def State.stepGeneratorsForward (s : State) : State :=
  { s with
    channels := Vector.ofFn fun c => (s.channels[c].stepForward s.lineTime).1
    counters :=
      { s.counters with
        framesSkipped :=
          bumpBy ((List.finRange 8).map fun c => (s.channels[c].stepForward s.lineTime).2).sum
            s.counters.framesSkipped } }

/-- Every generator at a large step: RUNNING and STOPPING ones restart their frame (R70). -/
def State.restartGenerators (s : State) : State :=
  { s with
    channels := Vector.ofFn fun c =>
      if s.channels[c].generates then s.channels[c].startFrame s.lineTime else s.channels[c]
    counters :=
      { s.counters with
        generatorRestarts :=
          bumpBy ((List.finRange 8).countP fun c => s.channels[c].generates) s.counters.generatorRestarts } }

/-- The generators take a step (R68 to R70). -/
def State.stepGenerators (change : Int) (s : State) : State :=
  if isLarge change then s.restartGenerators
  else if 0 < change then s.stepGeneratorsForward
  else s

/-! ### Actions (R56 to R63) -/

/-- A channel is written. -/
def State.setChannel (c : Fin 8) (ch : Channel) (s : State) : State := { s with channels := s.channels.set c ch }

/-- A pulse or a burst in flight is removed before its end, and counted as cut (R57, R80). -/
def State.cut (c : Fin 8) (s : State) : State :=
  { s with
    channels := s.channels.set c { s.channels[c] with pulse := none, burst := none }
    counters :=
      { s.counters with
        pulsesCut := if s.channels[c].pulse.isSome then bump s.counters.pulsesCut else s.counters.pulsesCut
        burstsCut := if s.channels[c].burst.isSome then bump s.counters.burstsCut else s.counters.burstsCut } }

/-- A latch action: the latch is set, and a pulse or burst in flight is cut (R57). -/
def State.setLatch (c : Fin 8) (level : Bool) (s : State) : State :=
  let t := s.cut c
  t.setChannel c { t.channels[c] with latch := level }

/-- PULSE on an unheld channel: it starts, or retriggers the one in flight (R58). -/
def Channel.startPulse (now : Time) (width : Nat) (ch : Channel) : Channel :=
  match ch.pulse with
  | none => { ch with pulse := some ⟨!ch.latch, later now width⟩ }
  | some p => { ch with pulse := some ⟨p.level, later now width⟩ }

/-- BURST on an unheld channel: it starts, or extends the one in flight, whose cycles remaining stop at
65,535 also in the moment its last half ends (R59, R60; DESIGN CHOICE, log entry 29). -/
def Channel.startBurst (now : Time) (half count : Nat) (ch : Channel) : Channel :=
  match ch.burst with
  | none => { ch with burst := some ⟨count, true, later now half⟩ }
  | some b => { ch with burst := some { b with cycles := min (b.cycles + count) 65535 } }

/-- START_GEN (R61). -/
def Channel.startGen (now : Time) (ch : Channel) : Channel :=
  { ch.takePending.startFrame now with gen := .running }

/-- STOP_GEN, at once (param 0) or at the frame end (param 1), R62. -/
def Channel.stopGen (param : Word16) (ch : Channel) : Channel :=
  match ch.gen with
  | .stopped => ch
  | .running | .stopping => { ch with gen := if param = 0 then .stopped else .stopping }

/-- LOAD (R63). -/
def Channel.load (now : Time) (ch : Channel) : Channel :=
  if ch.generates then ch.takePending.startFrame now else ch.takePending

/-- The channel takes an action (R56 to R63, R75). PULSE and BURST have no effect on a held channel. -/
def State.takeAction (c : Fin 8) (a : Action) (param : Word16) (s : State) : State :=
  match a with
  | .setHigh => s.setLatch c true
  | .setLow => s.setLatch c false
  | .toggle => s.setLatch c (!s.channels[c].latch)
  | .pulse => if s.isHeld c then s else s.setChannel c (s.channels[c].startPulse s.localTime param.toNat)
  | .burst =>
    if s.isHeld c then s
    else s.setChannel c (s.channels[c].startBurst s.localTime s.settings.carrierHalf param.toNat)
  | .startGen => s.setChannel c (s.channels[c].startGen s.lineTime)
  | .stopGen => s.setChannel c (s.channels[c].stopGen param)
  | .load => s.setChannel c (s.channels[c].load s.lineTime)

/-- The firing of this action on this channel is HELD (R40). -/
def State.firingHeld (c : Fin 8) (a : Action) (s : State) : Bool :=
  match a with
  | .pulse | .burst => s.isHeld c
  | .setHigh | .setLow | .toggle | .startGen | .stopGen | .load => false

/-- The actions valid for a channel mode (R30). -/
def actionValid : ChannelMode → Action → Bool
  | _, .setHigh => true
  | _, .setLow => true
  | _, .toggle => true
  | .level, a => a == .pulse
  | .generator, a => a != .burst
  | .carrier, a => a == .burst

/-- The params in range for an action (R31). -/
def paramValid (a : Action) (param : Word16) : Bool :=
  match a with
  | .pulse | .burst => param != 0
  | .stopGen => decide (param.toNat ≤ 1)
  | .setHigh | .setLow | .toggle | .startGen | .load => param == 0

/-- The repeats in range: an interval of 10..50,000,000 ticks, and a count that is not 1 (R31). -/
def repeatValid : Option (Nat × Nat) → Bool
  | none => true
  | some (interval, count) => inRange 10 interval horizon && count != 1

/-- A repeat as an entry or a template holds it: a count of 0 is endless (R31). -/
def repetitionOf : Option (Nat × Nat) → Option Repetition
  | none => none
  | some (interval, count) => some ⟨interval, if count = 0 then none else some count⟩

/-! ### SETGEN (R66) -/

/-- A SETGEN's set becomes active on a stopped generator, pending on a running one (R66). -/
def Channel.takeSet (g : GenSet) (ch : Channel) : Channel :=
  if ch.generates then { ch with pendingSet := some g } else { ch with activeSet := g, pendingSet := none }

/-- The output channels check and act on a SETGEN: the result, and 1 for a set that became pending
(R66). -/
def State.setgen (r : SetgenRequest) (s : State) : State × ResultCode × Word16 :=
  if h : r.channel < 8 then
    let c : Fin 8 := ⟨r.channel, h⟩
    if s.isPairOdd c then (s, .paired, 0)
    else if s.settings.channels[c].mode ≠ .generator then (s, .badAction, 0)
    else if r.set.period.toNat < 2 ∨ r.set.period.toNat < r.set.high.toNat then (s, .badParam, 0)
    else (s.setChannel c (s.channels[c].takeSet r.set), .ok, if s.channels[c].generates then 1 else 0)
  else (s, .badChannel, 0)

/-! ### Holds (R73 to R77) -/

/-- The channel's part of entering hold: pulse and burst removed, generator stopped (R74). -/
def Channel.enterHold (cause : HoldCause) (ch : Channel) : Channel :=
  { ch with pulse := none, burst := none, gen := .stopped, hold := some cause }

/-- The named channels enter hold (R73, R74). -/
def State.enterHold (cause : HoldCause) (named : Fin 8 → Bool) (s : State) : State :=
  { s with
    channels := Vector.ofFn fun c => if named c then s.channels[c].enterHold cause else s.channels[c]
    pairs := Vector.ofFn fun p => if named (evenOf p) then s.pairs[p].cancel else s.pairs[p]
    counters :=
      { s.counters with
        pulsesCut :=
          bumpBy ((List.finRange 8).countP fun c => named c && s.channels[c].pulse.isSome) s.counters.pulsesCut
        burstsCut :=
          bumpBy ((List.finRange 8).countP fun c => named c && s.channels[c].burst.isSome) s.counters.burstsCut } }

/-- Every channel enters hold (R82). -/
def State.holdAll (cause : HoldCause) (s : State) : State := s.enterHold cause fun _ => true

/-- Every channel configured to hold on loss enters hold (R73). -/
def State.holdOnLoss (cause : HoldCause) (s : State) : State := s.enterHold cause s.holdsOnLoss

/-- RELEASE_HOLD names the channel: its own bit, or for an enabled pair either channel's (R76). -/
def State.releaseNames (mask : Byte) (s : State) (c : Fin 8) : Bool :=
  if s.isPaired c then mask.getLsbD (evenOf (pairOf c)).val || mask.getLsbD (oddOf (pairOf c)).val
  else mask.getLsbD c.val

/-- The channel is named and held, and not kept held for want of lock (R76). -/
def State.releases (mask : Byte) (s : State) (c : Fin 8) : Bool :=
  s.releaseNames mask c && s.isHeld c && (!s.holdsOnLoss c || s.inLock)

/-- The channel is named and stays held for want of lock (R76). -/
def State.staysHeld (mask : Byte) (s : State) (c : Fin 8) : Bool :=
  s.releaseNames mask c && s.isHeld c && s.holdsOnLoss c && !s.inLock

/-- One bit per channel, bit n for channel n. -/
def maskOf (f : Fin 8 → Bool) : Nat := ((List.finRange 8).map fun c => bitOf (f c) * 2 ^ c.val).sum

/-- The output channels act on a RELEASE_HOLD: the result and the mask released (R76, R77). -/
def State.release (mask : Byte) (s : State) : State × ResultCode × Word16 :=
  ({ s with
      channels := Vector.ofFn fun c =>
        if s.releases mask c then { s.channels[c] with hold := none } else s.channels[c]
      pairs := Vector.ofFn fun p =>
        if s.settings.pairs[p].enabled && s.releases mask (evenOf p) then
          Pair.release (s.pairD p) s.localTime s.settings.pairs[p].deadBand
        else s.pairs[p] },
    if (List.finRange 8).any (s.staysHeld mask) then .unsynced else .ok,
    BitVec.ofNat 16 (maskOf (s.releases mask)))

/-! ### The end of configuration (R77, R79) -/

/-- A channel's state at the end of configuration (R79). -/
def Channel.initial (g : ChannelSettings) (held : Bool) : Channel :=
  { Channel.blank with
    latch := g.safe
    activeSet := ⟨g.defaultPeriod, g.defaultHigh⟩
    hold := if held then some .start else none }

/-- The channels and pairs at the end of configuration: hold-on-loss channels held with cause START,
enabled pairs that are not held through the dead band (R77, R79). -/
def State.initialChannels (s : State) : State :=
  let t := { s with channels := Vector.ofFn fun c => Channel.initial s.settings.channels[c] (s.holdsOnLoss c) }
  { t with
    pairs := Vector.ofFn fun p =>
      if t.settings.pairs[p].enabled && !t.isHeld (evenOf p) then
        Pair.release (t.pairD p) t.localTime t.settings.pairs[p].deadBand
      else Pair.blank }

end Sys2Proof.Machine
end

