-- ==== Sys2Proof/Machine/Queue.lean ====
section
/-! DEFINITION. The transmit queue (chapter 8) and the frames the station makes. -/

namespace Sys2Proof.Machine

/-- The class of a kind (R149). -/
def TxKind.cls : TxKind → Nat
  | .reply | .report => 0
  | .notice => 1
  | .mark => 2
  | .hello => 3
  | .stamp => 4

/-- A frame's place: behind every frame of its own class and lower, ahead of every higher (R149). -/
def insertFrame (f : TxFrame) : List TxFrame → List TxFrame
  | [] => [f]
  | g :: rest => if g.kind.cls ≤ f.kind.cls then g :: insertFrame f rest else f :: g :: rest

/-- The counter of a lost or displaced frame (R157). -/
def Counters.countLost (k : TxKind) (n : Counters) : Counters :=
  match k with
  | .reply | .report => { n with lostReplies := bump n.lostReplies }
  | .notice => { n with lostNotices := bump n.lostNotices }
  | .mark => { n with lostMarks := bump n.lostMarks }
  | .hello | .stamp => { n with lostAnnouncements := bump n.lostAnnouncements }

/-- The frame that an arrival of a class displaces in a full queue: of the highest class above it,
the youngest, leaving out the frame on the line (R151). The queue stands in class order, oldest
first within a class, so that frame is the last of them. -/
def victim (cls : Nat) (queue : List TxFrame) : Option TxFrame :=
  (queue.filter fun g => !g.onLine && decide (cls < g.kind.cls)).getLast?

/-- The most frames the queue holds (R148). -/
def queueLimit : Nat := 16

/-- A frame of a kind as it arrives: attempt count 0 and not on the line (R150). -/
def TxFrame.arriving (kind : TxKind) (destination : Nat) (sequence : BitVec 4) (payload : List Byte)
    (restartReply : Bool) (age : Nat) : TxFrame :=
  { kind := kind
    destination := destination
    sequence := sequence
    payload := payload
    age := age
    attempts := 0
    onLine := false
    restartReply := restartReply }

/-- A frame joins the queue at its place. -/
def State.placeFrame (f : TxFrame) (s : State) : State :=
  { s with queue := insertFrame f s.queue, nextAge := s.nextAge + 1 }

/-- A frame is lost, and counted under the lost counter of its kind (R157). -/
def State.loseFrame (k : TxKind) (s : State) : State := { s with counters := s.counters.countLost k }

/-- A frame that arrives now finds the queue emptied by the entry into SILENCED (R158). -/
def State.arrivesLate (s : State) : Bool := s.queueShutFrom.any fun age => decide (age ≤ s.nextAge)

/-- A frame arrives at the transmit queue: inserted, placed by displacing another, or lost (R150, R151,
R158). -/
def State.arrive (kind : TxKind) (destination : Nat) (sequence : BitVec 4) (payload : List Byte)
    (restartReply : Bool) (s : State) : State :=
  let f := TxFrame.arriving kind destination sequence payload restartReply s.nextAge
  if s.station ≠ .active ∨ s.arrivesLate then s.loseFrame kind
  else if s.queue.length < queueLimit then s.placeFrame f
  else if 2 ≤ kind.cls then s.loseFrame kind
  else
    match victim kind.cls s.queue with
    | none => s.loseFrame kind
    | some v =>
      State.placeFrame f { s with queue := s.queue.erase v, counters := s.counters.countLost v.kind }

/-- The frame on the line (R152). -/
def State.frameOnLine (s : State) : Option TxFrame := s.queue.find? (·.onLine)

/-- The queue is emptied, without counting losses (R158). -/
def State.emptyQueue (s : State) : State := { s with queue := [], finished := false }

/-! ### Frames the station makes (R197) -/

/-- A NOTICE's payload. -/
def noticePayload (e : Entry) (o : NoticeOutcome) (time : Time) : List Byte :=
  [byteOf e.origin] ++ bytes16 e.tag ++ [byteOf e.channel.val, byteOf (noticeCode o)] ++ bytes32 time

/-- A MARK's payload. -/
def markPayload (r : CaptureRecord) : List Byte :=
  [byteOf r.input.val, byteOf (edgeCode r.edge)] ++ bytes32 r.time ++ bytes16 r.number ++
    [byteOf (syncCode r.sync)]

/-- A REPLY's payload. -/
def replyPayload (kind : FrameKind) (sequence : BitVec 4) (code : ResultCode) (duplicate : Bool)
    (detail : Word16) : List Byte :=
  [byteOf (kindCode kind), sequence.setWidth 8, byteOf (resultNumber code), byteOf (bitOf duplicate)] ++
    bytes16 detail

/-- The NOTICE of an entry leaving the schedule, if it has a notify station (R49). -/
def State.notice (e : Entry) (o : NoticeOutcome) (s : State) : State :=
  match e.notify with
  | none => s
  | some station => s.arrive .notice station 0 (noticePayload e o s.lineTime) false

/-- The cells of the frame on the line, in the order they go out: up to the stamp point the start
pattern, and from then on the whole frame with the stamp inserted (R4, R131, R140). -/
def State.cellsOnLine (s : State) : List Bool :=
  match s.frameOnLine, s.line.stamped with
  | none, _ => []
  | some _, none => startPattern
  | some f, some (stamp, sync) =>
    frameCells f.kind.frameKind
      { sender := s.settings.station
        destination := f.destination
        sequence := f.sequence
        sync := sync
        stamp := stamp
        payload := f.payload }

end Sys2Proof.Machine
end

