-- ==== Sys2Proof/Machine/Schedule.lean ====
section
/-! DEFINITION. The schedule (chapter 2): its order, arming, firing, repeats, drops, removal. -/

namespace Sys2Proof.Machine

/-- The most entries the schedule holds (R26). -/
def scheduleLimit : Nat := 64

/-- Where an entry stands from the present: negative for a reached entry (R27). -/
def Entry.place (now : Time) (e : Entry) : Int := signedDiff now e.due

/-- An entry's place in schedule order: behind every entry of an earlier or the same due (R27). -/
def insertEntry (now : Time) (e : Entry) : List Entry → List Entry
  | [] => [e]
  | x :: rest => if x.place now ≤ e.place now then x :: insertEntry now e rest else e :: x :: rest

/-- The entry bears this origin and tag (R26). -/
def Entry.named (origin : Nat) (tag : Word16) (e : Entry) : Bool := e.origin == origin && e.tag == tag

/-- An entry of this origin and tag is held. -/
def State.holdsEntry (origin : Nat) (tag : Word16) (s : State) : Bool := s.schedule.any (·.named origin tag)

/-- How many ticks ago a reached due lies (R41). -/
def ticksSince (now due : Time) : Nat := forward due now

/-- What comes of a repeating entry after a firing: the entry at its next due found ahead, or none
when its firings are spent, and the repeats skipped on the way (R41). The repeats reached are those
whole intervals that fit into the ticks since the due. -/
def Entry.afterFiring (now : Time) (e : Entry) : Option Entry × Nat :=
  match e.repetition with
  | none => (none, 0)
  | some r =>
    let passed := ticksSince now e.due / r.interval
    let next := later e.due ((passed + 1) * r.interval)
    match r.remaining with
    | none => (some { e with due := next }, passed)
    | some count =>
      if count - 1 ≤ passed then (none, count - 1)
      else (some { e with due := next, repetition := some ⟨r.interval, some (count - 1 - passed)⟩ }, passed)

/-- An entry is inserted at its place (R27, R35). -/
def State.insert (e : Entry) (s : State) : State :=
  { s with schedule := insertEntry s.lineTime e s.schedule }

/-- An entry leaves because its firings are spent (R42). -/
def State.spent (e : Entry) (s : State) : State := s.notice e (if e.heldAtLast then .held else .done)

/-- An entry is dropped (R39, R43). -/
def State.drop (e : Entry) (s : State) : State :=
  State.notice e .dropped { s with counters := { s.counters with dropped := bump s.counters.dropped } }

/-- What follows a firing: repeats skipped are counted, and the entry is re-inserted or removed (R41,
R42). -/
def State.afterFiring (e : Entry) (s : State) : State :=
  let t :=
    { s with
      counters :=
        { s.counters with repeatsSkipped := bumpBy (e.afterFiring s.lineTime).2 s.counters.repeatsSkipped } }
  match (e.afterFiring s.lineTime).1 with
  | some next => t.insert next
  | none => t.spent e

/-- A reached entry, already taken out of the schedule, fires or is dropped for want of lock (R39 to
R42). -/
def State.fire (e : Entry) (s : State) : State :=
  if e.lockRequired && !s.inLock then s.drop e
  else
    let held := s.firingHeld e.channel e.action
    let t :=
      State.takeAction e.channel e.action e.param
        { s with counters := { s.counters with fired := bump s.counters.fired } }
    t.afterFiring { e with heldAtLast := held }

/-- Every reached entry fires, in schedule order (R37, R38). -/
def State.fireReached (s : State) : State :=
  (s.schedule.filter fun e => s.lineReached e.due).foldl (fun t e => t.fire e)
    { s with schedule := s.schedule.filter fun e => !s.lineReached e.due }

/-- An entry that a step leaves outside the bound of R27: ahead by more than the reach limit, or,
after a backward step, reached (R43). -/
def State.beyondReach (s : State) (e : Entry) : Bool :=
  s.lineReached e.due || decide (reachLimit < s.aheadBy e.due)

/-- The reach-limit drop, in schedule order (R43). The order in which the entries are dropped, and their
NOTICEs queued, is that in which they stood before the step. DESIGN CHOICE, log entry 27: where a backward
step carries some of them round to reached, R27 says both that reached entries stand first and that a
backward step leaves the order as it is. -/
def State.dropBeyondReach (s : State) : State :=
  (s.schedule.filter s.beyondReach).foldl (fun t e => t.drop e)
    { s with schedule := s.schedule.filter fun e => !s.beyondReach e }

/-- The schedule takes a step: after a forward step the reached entries fire, then the reach-limit
drop (R38, R43). -/
def State.stepSchedule (change : Int) (s : State) : State :=
  if 0 < change then s.fireReached.dropBeyondReach
  else if change < 0 then s.dropBeyondReach
  else s

/-- An armed entry is inserted; a reached one fires at its insertion (R35, R37). Entries held that this
moment has reached and not yet fired stand before it, and so reach their channels before it: they were
armed earlier (R27, R37, R56, log entry 26). -/
def State.armEntry (e : Entry) (s : State) : State :=
  if s.lineReached e.due then (s.insert e).fireReached else s.insert e

/-- Entries are removed with one outcome, in schedule order (R44 to R46). -/
def State.removeEntries (gone : Entry → Bool) (o : NoticeOutcome) (s : State) : State :=
  (s.schedule.filter gone).foldl (fun t e => t.notice e o)
    { s with schedule := s.schedule.filter fun e => !gone e }

/-- How many entries a removal takes. -/
def State.removedCount (gone : Entry → Bool) (s : State) : Nat := s.schedule.countP gone

/-- The held entry of this origin and tag is removed with outcome REPLACED (R34). -/
def State.replaceEntry (origin : Nat) (tag : Word16) (s : State) : State :=
  s.removeEntries (·.named origin tag) .replaced

/-- The checks of R30 on a channel and an action: the channel, or the result of the first that
fails. -/
def State.checkChannel (channel : Nat) (a : Action) (s : State) : Except ResultCode (Fin 8) :=
  if h : channel < 8 then
    let c : Fin 8 := ⟨channel, h⟩
    if s.isPairOdd c then .error .paired
    else if actionValid s.settings.channels[c].mode a then .ok c
    else .error .badAction
  else .error .badChannel

/-- The entry an ARM names, with the due it is armed with (R25, R33, R35). -/
def ArmRequest.entry (r : ArmRequest) (origin : Nat) (c : Fin 8) (due : Time) : Entry :=
  { origin := origin
    tag := r.tag
    channel := c
    action := r.action
    param := r.param
    due := due
    repetition := repetitionOf r.repetition
    lockRequired := r.lock
    notify := if r.confirm then some origin else none
    source := none
    heldAtLast := false }

/-- Checks 8 to 10 of R29: an entry of the same origin and tag is replaced, a full schedule refuses,
and otherwise the entry is inserted (R34, R35). -/
def State.armChecked (e : Entry) (s : State) : State × ResultCode :=
  if s.holdsEntry e.origin e.tag then ((s.replaceEntry e.origin e.tag).armEntry e, .replaced)
  else if scheduleLimit ≤ s.schedule.length then (s, .full)
  else (s.armEntry e, .ok)

/-- The due an accepted ARM is armed with: a reached one is replaced by the present (R33). -/
def State.armDue (due : Time) (s : State) : Time := if s.lineReached due then s.lineTime else due

/-- The schedule checks an ARM in the order of R29 and arms, replaces or refuses. -/
def State.arm (origin : Nat) (r : ArmRequest) (s : State) : State × ResultCode :=
  match s.checkChannel r.channel r.action with
  | .error code => (s, code)
  | .ok c =>
    if !(paramValid r.action r.param && repeatValid r.repetition) then (s, .badParam)
    else if r.lock && !s.inLock then (s, .unsynced)
    else if s.lineReached r.due && !r.lateOk then (s, .late)
    else if !s.lineReached r.due && decide (horizon < s.aheadBy r.due) then (s, .tooFar)
    else s.armChecked (r.entry origin c (s.armDue r.due))

end Sys2Proof.Machine
end

