-- ==== Sys2Proof/Machine/LineTime.lean ====
section
/-! DEFINITION. The line time unit at a settle point (chapter 1). -/

namespace Sys2Proof.Machine

/-- The peer's sample is usable at a settle point: fresh, and in lock its sender in lock too (R9). -/
def Peer.usable (sync : SyncState) (p : Peer) : Bool :=
  decide (p.age ≤ 1) && (!syncInLock sync || syncInLock p.reported)

/-- The value list: the station's own 0 and the usable samples (R10). -/
def State.valueList (s : State) : List Int :=
  0 :: (s.peers.filter (Peer.usable s.sync)).map fun p => p.sample.toInt

/-- The largest of a list with at least one value. -/
def largest (first : Int) (rest : List Int) : Int := rest.foldl max first

/-- The smallest of a list with at least one value. -/
def smallest (first : Int) (rest : List Int) : Int := rest.foldl min first

/-- The midpoint of the largest and the smallest value, truncated toward zero (R10). -/
def midpoint : List Int → Int
  | [] => 0
  | v :: rest => (largest v rest + smallest v rest).tdiv 2

/-- One occurrence of the largest and one of the smallest value is removed from 4 or more (R10). -/
def trim : List Int → List Int
  | [] => []
  | v :: rest =>
    if 4 ≤ (v :: rest).length then ((v :: rest).erase (largest v rest)).erase (smallest v rest)
    else v :: rest

/-- Delta of a value list (R10). -/
def deltaOf (values : List Int) : Int := midpoint (trim values)

/-- Delta is in window (R11). -/
def inWindow (lockWindow : Nat) (delta : Int) : Bool := decide (delta.natAbs ≤ lockWindow)

/-- Delta clamped to the step limit (R12). -/
def clampTo (limit : Nat) (delta : Int) : Int := max (-(limit : Int)) (min delta limit)

/-- The correction change: whole in ALONE and ACQUIRING, clamped in LOCKED and ADRIFT, and 0 for a
value list of 1 (R12). -/
def correctionChange (sync : SyncState) (stepLimit n : Nat) (delta : Int) : Int :=
  if n ≤ 1 then 0 else if syncInLock sync then clampTo stepLimit delta else delta

/-- A sync state with its lock and drift counts. -/
structure SyncStatus where
  sync : SyncState
  lockCount : Nat
  driftCount : Nat
  deriving DecidableEq, Repr

/-- The sync-state transition at a settle point (R14 to R17): `n` the count of values, `within`
whether delta is in window. -/
def transition (n : Nat) (within : Bool) (v : SyncStatus) : SyncStatus :=
  match v.sync with
  | .alone =>
    if n ≤ 1 then v else ⟨.acquiring, if within then 1 else 0, 0⟩
  | .acquiring =>
    if n ≤ 1 then ⟨.alone, 0, v.driftCount⟩
    else if within then
      (if 3 ≤ v.lockCount + 1 then ⟨.locked, 3, 0⟩ else ⟨.acquiring, v.lockCount + 1, v.driftCount⟩)
    else ⟨.acquiring, 0, v.driftCount⟩
  | .locked =>
    if n ≤ 1 then ⟨.alone, 0, 0⟩
    else if within then v
    else ⟨.adrift, v.lockCount, 1⟩
  | .adrift =>
    if n ≤ 1 then ⟨.alone, 0, 0⟩
    else if within then ⟨.locked, v.lockCount, 0⟩
    else if 3 ≤ v.driftCount + 1 then ⟨.acquiring, 0, 0⟩
    else ⟨.adrift, v.lockCount, v.driftCount + 1⟩

/-- What a settle point announces: the signed change of the correction, and whether lock was lost
(R13, R18). -/
structure SettleNews where
  change : Int
  lossOfLock : Bool
  deriving DecidableEq, Repr

/-- The computed delta of the settle point (R10). -/
def State.settleDelta (s : State) : Int := deltaOf s.valueList

/-- The sync status after the settle point (R14 to R17). -/
def State.settleStatus (s : State) : SyncStatus :=
  transition s.valueList.length (inWindow s.settings.lockWindow s.settleDelta) ⟨s.sync, s.lockCount, s.driftCount⟩

/-- What the settle point announces (R13, R18). -/
def State.settleNews (s : State) : SettleNews :=
  { change := correctionChange s.sync s.settings.stepLimit s.valueList.length s.settleDelta
    lossOfLock := s.inLock && !syncInLock s.settleStatus.sync }

/-- The clamp of R12 changes delta at this settle point. -/
def State.settleClamps (s : State) : Bool :=
  s.inLock && decide (1 < s.valueList.length) && s.settleNews.change != s.settleDelta

/-- The line time unit's own work at a settle point: correction, sync state, counts, last delta and
counters take effect as one change (R8, R22), and the settle timer begins its next interval (R7). -/
def State.settleUnit (s : State) : State :=
  { s with
    settleNext := s.settleNext.map fun t => later t s.settings.settleInterval
    correction := s.correction + BitVec.ofInt 32 s.settleNews.change
    sync := s.settleStatus.sync
    lockCount := s.settleStatus.lockCount
    driftCount := s.settleStatus.driftCount
    lastDelta := BitVec.ofInt 32 s.settleDelta
    counters :=
      { s.counters with
        clampedCorrections :=
          if s.settleClamps then bump s.counters.clampedCorrections else s.counters.clampedCorrections
        lossesOfLock :=
          if s.settleNews.lossOfLock then bump s.counters.lossesOfLock else s.counters.lossesOfLock
        largeSteps :=
          if isLarge s.settleNews.change then bump s.counters.largeSteps else s.counters.largeSteps } }

end Sys2Proof.Machine
end

