-- ==== Sys2Proof/Machine/Ops.lean ====
section
/-! DEFINITION. Operations several blocks share: the peer table and the roster (chapter 6), the
deferral and the cut of the line interface (chapter 7), activation, silencing and restart
(chapter 10). -/

namespace Sys2Proof.Machine

/-! ### Peer table and roster -/

/-- A member moves to the end of the roster; one not yet present is appended (R121). -/
def moveToEnd (station : Nat) (roster : List Nat) : List Nat := roster.filter (· != station) ++ [station]

/-- The station's rank: the roster members ahead of its own number (R125). -/
def State.rank (s : State) : Nat := (s.roster.takeWhile (· != s.settings.station)).length

/-- The peer entry of a station. -/
def State.peer? (station : Nat) (s : State) : Option Peer := s.peers.find? (·.station == station)

/-- A clean frame refreshes its sender's entry: sample, age 0, reported state, silence 0. The command
record is left as it is (R116). -/
def Peer.refresh (sample : Time) (reported : SyncState) (p : Peer) : Peer :=
  { p with sample := sample, age := 0, reported := reported, silence := 0 }

/-- The sender's entry is refreshed, or created without a command record (R116). -/
def refreshPeer (station : Nat) (sample : Time) (reported : SyncState) (peers : List Peer) : List Peer :=
  if peers.any (·.station == station) then
    peers.map fun p => if p.station == station then p.refresh sample reported else p
  else peers ++ [{ station := station, sample := sample, age := 0, reported := reported, silence := 0, record := none }]

/-- The last command of a peer is recorded (R118). -/
def State.writeRecord (station : Nat) (r : CommandRecord) (s : State) : State :=
  { s with peers := s.peers.map fun p => if p.station == station then { p with record := some r } else p }

/-- A settle point ages an entry (R119). -/
def Peer.grow (p : Peer) : Peer := { p with age := p.age + 1, silence := p.silence + 1 }

/-- The entry's silence count, once aged, has reached the silence limit (R120). -/
def State.fallsSilent (s : State) (p : Peer) : Bool := decide (s.settings.silenceLimit ≤ p.silence + 1)

/-- Every entry is aged, and the silent ones leave the peer table and the roster (R119, R120). -/
def State.agePeers (s : State) : State :=
  { s with
    peers := (s.peers.filter fun p => !s.fallsSilent p).map Peer.grow
    roster := s.roster.filter fun n => !s.peers.any fun p => p.station == n && s.fallsSilent p }

/-! ### Receiving -/

/-- The station state lets the line interface hand frames on: LISTENING, ACTIVE, SILENCED (R117,
R136). -/
def StationState.receives : StationState → Bool
  | .listening | .active | .silenced => true
  | .configuring | .configFault => false

/-- The frame is addressed to this station or to all (R136). -/
def State.addressed (s : State) (f : Frame) : Bool :=
  f.destination == s.settings.station || f.destination == 31

/-- The local time a frame's sample is measured from: the latched one. The manual states none for a
frame without (log entry 4). -/
def State.sampleTime (s : State) : Time := s.line.latched.getD (Config.unlatchedTime s.draws)

/-- The sample of a clean frame (R6). -/
def State.sampleOf (s : State) (f : Frame) : Time :=
  later f.stamp s.settings.lineDelay - (s.sampleTime + s.correction)

/-- The roster controller takes a clean frame of a peer: the sample, the peer entry, the roster. The
latched time is spent with the frame (R5, R116, R121). -/
def State.receive (f : Frame) (s : State) : State :=
  { s with
    peers := refreshPeer f.sender (s.sampleOf f) f.sync s.peers
    roster := moveToEnd f.sender s.roster
    line := { s.line with latched := none }
    draws := if s.line.latched.isSome then s.draws else s.draws + 1 }

/-! ### Deferral, cut (R138, R145) -/

/-- The deferral target: base gap 3, rank, backoff held (R138). -/
def State.deferralTarget (s : State) : Nat := 3 + s.rank + (s.line.backoff.getD 0).toNat

/-- The line interface's part in a RESTART taking effect and in the entry into SILENCED: a frame
being sent is cut with a break, deferral ends and the backoff is cleared (R143, R145). -/
def State.cutLine (s : State) : State :=
  { s with
    line :=
      if s.line.condition = .sending then
        { s.line with
          condition := .breaking
          passedOver := true
          stamped := none
          breakEnd := later s.localTime (2 * s.settings.gapTicks)
          target := none
          backoff := none }
      else { s.line with target := none, backoff := none } }

/-! ### Activation, silencing, restart (R187, R188, R191) -/

/-- The entry into ACTIVE (R187): the station joins its roster's end, a HELLO is queued, and a
deferral target is formed for a quiet period in progress. -/
def State.activate (s : State) : State :=
  let t :=
    State.arrive .hello 31 0 [] false
      { s with station := .active, roster := moveToEnd s.settings.station s.roster }
  if t.line.condition = .quiet then { t with line := { t.line with target := some t.deferralTarget } } else t

/-- The entry into SILENCED (R188). -/
def State.silence (s : State) : State :=
  let t := (s.holdAll .fault).cutLine.emptyQueue
  { t with
    station := .silenced
    restartPending := false
    schedule := []
    roster := t.roster.filter (· != t.settings.station) }

/-- A RESTART takes effect (R191). -/
def State.takeRestart (s : State) : State :=
  let t := (s.holdAll .restart).cutLine.emptyQueue
  { t with
    station := .listening
    listenCount := 0
    restartPending := false
    schedule := []
    peers := []
    roster := []
    captureLog := []
    driftCount := 0
    lockCount := if t.inLock then t.lockCount else 0 }

/-- A clean frame that bears this station's own number and was not sent by it (R126). -/
def State.duplicateFound (s : State) : State :=
  let t := { s with line := { s.line with latched := none } }
  match s.station with
  | .listening | .active => t.silence
  | .silenced => t
  | .configuring | .configFault => s

/-- A clean frame is handed on (R136): from another station to the roster controller, and then by
`next` to the block its kind names; with this station's own number as a duplicate. -/
def State.handOver (f : Frame) (next : State → State) (s : State) : State :=
  if !s.station.receives then s
  else if f.sender = s.settings.station then s.duplicateFound
  else next (s.receive f)

end Sys2Proof.Machine
end

