-- ==== Sys2Proof/Machine/Reactions.lean ====
section
/-! DEFINITION. The reaction table (chapter 5): installing, removing, matching a mark. -/

namespace Sys2Proof.Machine

/-- The table occupancy (R97). -/
def State.occupiedSlots (s : State) : Nat := s.slots.toList.countP (·.isSome)

/-- A slot is written. -/
def State.setSlot (i : Fin 24) (r : Option Reaction) (s : State) : State := { s with slots := s.slots.set i r }

/-- The input field of a reaction as sent: 255 for ANY, and none out of range (R99). -/
def reactionInputOf (n : Nat) : Option (Option (Fin 4)) :=
  if n = 255 then some none else if h : n < 4 then some (some ⟨n, h⟩) else none

/-- The source field of a reaction as sent: 255 for ANY, and none out of range (R99). -/
def reactionSourceOf (n : Nat) : Option (Option Nat) :=
  if n = 255 then some none else if 1 ≤ n ∧ n ≤ 30 then some (some n) else none

/-- The gate fields of a reaction as sent: input 255 for no gate, whose level is then not read (R197),
and none out of range (R99). -/
def reactionGateOf (input level : Nat) : Option (Option (Fin 4 × Bool)) :=
  if input = 255 then some none
  else if h : input < 4 then (if level ≤ 1 then some (some (⟨input, h⟩, level == 1)) else none)
  else none

/-- The notify field of a reaction as sent: 0 for none, and none out of range or this station's own
number (R99). -/
def reactionNotifyOf (own n : Nat) : Option (Option Nat) :=
  if n = 0 then some none else if n ≤ 30 ∧ n ≠ own then some (some n) else none

/-- Check 5 of R99 on an INSTALL, and the reaction it installs. -/
def InstallRequest.reaction (r : InstallRequest) (own installer : Nat) (c : Fin 8) : Option Reaction :=
  match reactionSourceOf r.source, reactionInputOf r.input, reactionGateOf r.gateInput r.gateLevel,
      reactionNotifyOf own r.notify with
  | some source, some input, some gate, some notify =>
    if paramValid r.action r.param && repeatValid r.repetition && decide (r.delay ≤ horizon) then
      some
        { source := source
          input := input
          edge := r.edge
          gate := gate
          channel := c
          action := r.action
          param := r.param
          delay := r.delay
          repetition := repetitionOf r.repetition
          lockRequired := r.lockRequired
          latePolicy := r.latePolicy
          retrigger := r.retrigger
          notify := notify
          tag := r.tag
          installer := installer
          hits := 0
          lastOutcome := .none }
    else none
  | _, _, _, _ => none

/-- The tag is held by a reaction in another slot (R98). -/
def State.tagElsewhere (i : Fin 24) (tag : Word16) (s : State) : Bool :=
  (List.finRange 24).any fun j => j != i && s.slots[j].any (·.tag == tag)

/-- The reaction table checks a REACT INSTALL in the order of R99 and installs or refuses (R100). -/
def State.install (installer : Nat) (r : InstallRequest) (s : State) : State × ResultCode :=
  if h : r.slot < 24 then
    let i : Fin 24 := ⟨r.slot, h⟩
    match s.checkChannel r.channel r.action with
    | .error code => (s, code)
    | .ok c =>
      match r.reaction s.settings.station installer c with
      | none => (s, .badParam)
      | some reaction =>
        if s.tagElsewhere i r.tag then (s, .tagInUse)
        else (s.setSlot i (some reaction), if s.slots[i].isSome then .replaced else .ok)
  else (s, .badParam)

/-- The reaction table acts on a REACT REMOVE (R101). -/
def State.removeReaction (slot : Nat) (s : State) : State × ResultCode :=
  if h : slot < 24 then
    let i : Fin 24 := ⟨slot, h⟩
    if s.slots[i].isSome then (s.setSlot i none, .ok) else (s, .notFound)
  else (s, .badParam)

/-! ### Matching (R103 to R110) -/

/-- The reaction matches the mark (R103). -/
def Reaction.matchesMark (m : Mark) (r : Reaction) : Bool :=
  r.source.all (· == m.source) && r.input.all (· == m.input) && r.edge.all (· == m.edge)

/-- The entry a match arms (R108). -/
def Reaction.entry (r : Reaction) (own : Nat) (i : Fin 24) (due : Time) : Entry :=
  { origin := own
    tag := r.tag
    channel := r.channel
    action := r.action
    param := r.param
    due := due
    repetition := r.repetition
    lockRequired := r.lockRequired
    notify := r.notify
    source := some i
    heldAtLast := false }

/-- The schedule's treatment of a reaction arm, and its outcome (R36, R108). -/
def State.armReaction (r : Reaction) (i : Fin 24) (due : Time) (s : State) : State × LastOutcome :=
  let own := s.settings.station
  let e := r.entry own i due
  if s.holdsEntry own r.tag then
    match r.retrigger with
    | .replace => ((s.replaceEntry own r.tag).armEntry e, .armed)
    | .keep => (s, .kept)
  else if scheduleLimit ≤ s.schedule.length then (s, .full)
  else (s.armEntry e, .armed)

/-- A matching slot's tests, in order, and the outcome of its match (R104 to R108). -/
def State.runMatch (m : Mark) (r : Reaction) (i : Fin 24) (s : State) : State × LastOutcome :=
  if r.gate.any fun g => s.inputs[g.1].level != g.2 then (s, .gated)
  else if r.lockRequired && !(syncInLock m.sync && s.inLock) then (s, .unsynced)
  else
    let due := later m.time r.delay
    if s.lineReached due then
      match r.latePolicy with
      | .fireNow => s.armReaction r i s.lineTime
      | .drop => (s, .late)
    else if horizon < s.aheadBy due then (s, .tooFar)
    else s.armReaction r i due

/-- The station counter an outcome advances (R110). -/
def Counters.countOutcome (o : LastOutcome) (n : Counters) : Counters :=
  match o with
  | .gated => { n with reactionsGated := bump n.reactionsGated }
  | .unsynced => { n with reactionsUnsynced := bump n.reactionsUnsynced }
  | .late => { n with reactionsLate := bump n.reactionsLate }
  | .tooFar => { n with reactionsTooFar := bump n.reactionsTooFar }
  | .kept => { n with reactionsKept := bump n.reactionsKept }
  | .full => { n with reactionsFull := bump n.reactionsFull }
  | .armed | .none => n

/-- One slot takes a mark (R103, R110). -/
def State.markSlot (m : Mark) (i : Fin 24) (s : State) : State :=
  match s.slots[i] with
  | none => s
  | some r =>
    if r.matchesMark m then
      let done := s.runMatch m r i
      let t := done.1.setSlot i (some { r with hits := bump r.hits, lastOutcome := done.2 })
      { t with counters := t.counters.countOutcome done.2 }
    else s

/-- The reaction table takes a mark whole, slots 0 to 23 in order (R103). -/
def State.takeMark (m : Mark) (s : State) : State :=
  (List.finRange 24).foldl (fun t i => t.markSlot m i) s

end Sys2Proof.Machine
end

