-- ==== Sys2Proof/Machine/CaptureUnit.lean ====
section
/-! DEFINITION. The capture unit (chapter 4): edges, hold-off, prescaling, records and marks. -/

namespace Sys2Proof.Machine

/-- The edges of interest of a mode (R85). -/
def InputMode.interested : InputMode → Edge → Bool
  | .off, _ => false
  | .rising, e => e == .rise
  | .falling, e => e == .fall
  | .both, _ => true
  | .rise4, e => e == .rise
  | .rise16, e => e == .rise

/-- How many accepted edges make a capture (R85). -/
def InputMode.divisor : InputMode → Nat
  | .rise4 => 4
  | .rise16 => 16
  | .off | .rising | .falling | .both => 1

/-- The level after an edge (R84). -/
def levelAfter : Edge → Bool
  | .rise => true
  | .fall => false

/-- The most records the capture log holds (R89). -/
def logLimit : Nat := 32

/-- An input is written. -/
def State.setInput (i : Fin 4) (v : CaptureInput) (s : State) : State := { s with inputs := s.inputs.set i v }

/-- The equipment drives a level on a CI pin. -/
def State.drivePin (i : Fin 4) (level : Bool) (s : State) : State :=
  { s with inputPins := s.inputPins.set i level }

/-- This tick's sample finds a new level on an input (R84, R93). -/
def State.setLevel (i : Fin 4) (level : Bool) (s : State) : State :=
  (s.drivePin i level).setInput i { s.inputs[i] with level := level, sampled := true }

/-- The record of a capture taken now (R87). -/
def State.captureRecord (i : Fin 4) (e : Edge) (s : State) : CaptureRecord :=
  { input := i, edge := e, time := s.lineTime, number := s.markNumber, sync := s.sync }

/-- The record enters the log as the newest, and the station mark number advances (R88, R89). -/
def State.logCapture (r : CaptureRecord) (s : State) : State :=
  { s with
    captureLog := (if s.captureLog.length < logLimit then s.captureLog else s.captureLog.drop 1) ++ [r]
    markNumber := s.markNumber + 1
    counters :=
      { s.counters with
        logOverruns :=
          if s.captureLog.length < logLimit then s.counters.logOverruns else bump s.counters.logOverruns } }

/-- The record is handed to the reaction table as a local mark (R90). -/
def State.handLocalMark (r : CaptureRecord) (s : State) : State :=
  s.takeMark
    { source := s.settings.station, input := r.input, edge := r.edge, time := r.time, number := r.number, sync := r.sync }

/-- The MARK of a capture, if its input publishes (R91). -/
def State.publishMark (r : CaptureRecord) (s : State) : State :=
  if s.settings.inputs[r.input].publish then s.arrive .mark 31 0 (markPayload r) false else s

/-- Where a record goes, by station state (R90): `markFirst` whether its MARK reaches the transmit
queue before the reaction table is handed the mark. -/
def State.distribute (r : CaptureRecord) (markFirst : Bool) (s : State) : State :=
  match s.station with
  | .active =>
    if markFirst then (s.publishMark r).handLocalMark r else (s.handLocalMark r).publishMark r
  | .listening => s.handLocalMark r
  | .configuring | .configFault | .silenced => s

/-- A capture (R87 to R91). -/
def State.capture (i : Fin 4) (e : Edge) (markFirst : Bool) (s : State) : State :=
  let r := s.captureRecord i e
  (s.logCapture r).distribute r markFirst

/-- An accepted edge of interest opens a hold-off and advances the prescale count (R85, R86). -/
def State.openHoldOff (i : Fin 4) (s : State) : State :=
  let g := s.settings.inputs[i]
  s.setInput i
    { s.inputs[i] with
      holdOffEnd := if g.holdOff = 0 then none else some (later s.localTime g.holdOff)
      prescale :=
        if g.mode.divisor = 1 then s.inputs[i].prescale
        else if g.mode.divisor ≤ s.inputs[i].prescale + 1 then 0
        else s.inputs[i].prescale + 1 }

/-- The accepted edge is captured: every one, or every 4th or 16th (R85). -/
def State.captures (i : Fin 4) (s : State) : Bool :=
  decide (s.settings.inputs[i].mode.divisor = 1) ||
    decide (s.settings.inputs[i].mode.divisor ≤ s.inputs[i].prescale + 1)

/-- An edge of interest: suppressed in a hold-off, otherwise accepted (R85, R86). -/
def State.edgeOfInterest (i : Fin 4) (e : Edge) (markFirst : Bool) (s : State) : State :=
  if s.inputs[i].holdOffEnd.isSome then
    s.setInput i { s.inputs[i] with suppressed := bump s.inputs[i].suppressed }
  else if s.captures i then (s.openHoldOff i).capture i e markFirst
  else s.openHoldOff i

/-- The inputs are sampled: LISTENING, ACTIVE, SILENCED (R84). -/
def StationState.samples : StationState → Bool
  | .listening | .active | .silenced => true
  | .configuring | .configFault => false

/-- An edge: the level of this tick's one sample differs from the level held (R84). -/
def State.sees (i : Fin 4) (e : Edge) (s : State) : Bool :=
  s.station.samples && s.inputs[i].level != levelAfter e && !s.inputs[i].sampled

/-- The inputs at the end of configuration: the reference samples, nothing in flight (R84, R95). -/
def State.initialInputs (s : State) : State :=
  { s with inputs := Vector.ofFn fun i => { s.inputs[i] with level := s.inputPins[i], sampled := true } }

end Sys2Proof.Machine
end

