-- ==== Sys2Proof/Machine/Decoder.lean ====
section
/-! DEFINITION. The command decoder (chapter 9): what every command goes through, the answers, the
REPORT records. -/

namespace Sys2Proof.Machine

/-- The frame kind of a command's kind. -/
def CommandKind.frameKind : CommandKind → FrameKind
  | .arm => .arm
  | .cancel => .cancel
  | .setgen => .setgen
  | .react => .react
  | .control => .control

/-- The REPLY to a command, queued to its sender; nothing for a command sent to all (R160, R164). -/
def State.reply (kind : FrameKind) (f : Frame) (code : ResultCode) (duplicate : Bool) (detail : Word16)
    (restartReply : Bool) (s : State) : State :=
  if f.destination = 31 then s
  else s.arrive .reply f.sender f.sequence (replyPayload kind f.sequence code duplicate detail) restartReply

/-- The sender's command record, if it makes this command a repeat (R162). -/
def State.repeatOf (kind : CommandKind) (f : Frame) (s : State) : Option CommandRecord :=
  match s.peer? f.sender with
  | none => none
  | some p => p.record.filter fun r => r.kind == kind && r.sequence == f.sequence

/-- The payload check fails: BAD_PARAM with detail 0, counted (R161, R163, R177). -/
def State.refusePayload (s : State) : State × ResultCode × Word16 :=
  ({ s with counters := { s.counters with payloadRefusals := bump s.counters.payloadRefusals } }, .badParam, 0)

/-- A command set aside (R159). -/
def State.setAside (s : State) : State :=
  { s with counters := { s.counters with setAside := bump s.counters.setAside } }

/-- A repeat is counted (R162, R177). -/
def State.countRepeat (s : State) : State :=
  { s with counters := { s.counters with duplicates := bump s.counters.duplicates } }

/-- A repeat: counted, and answered from the record (R162). -/
def State.answerRepeat (kind : CommandKind) (f : Frame) (r : CommandRecord) (s : State) : State :=
  s.countRepeat.reply kind.frameKind f r.code true r.detail false

/-- Steps 2 to 4 of R161 on a command that is not a repeat: `body` is its payload check and dispatch,
then the record is written. -/
def State.carryOut (kind : CommandKind) (f : Frame) (body : State → State × ResultCode × Word16) (s : State) :
    State × ResultCode × Word16 :=
  let done := body s
  (done.1.writeRecord f.sender ⟨kind, f.sequence, done.2.1, done.2.2⟩, done.2)

/-- A command that is not a repeat (R161): it is carried out, and `conclude` answers. -/
def State.execute (kind : CommandKind) (f : Frame) (body : State → State × ResultCode × Word16)
    (conclude : ResultCode → Word16 → State → State) (s : State) : State :=
  let done := s.carryOut kind f body
  conclude done.2.1 done.2.2 done.1

/-- A command frame from another station, once the roster controller has taken it (R136, R159 to
R162). -/
def State.decode (kind : CommandKind) (f : Frame) (body : State → State × ResultCode × Word16)
    (conclude : ResultCode → Word16 → State → State) (s : State) : State :=
  if !s.addressed f then s
  else if s.station ≠ .active then s.setAside
  else
    match s.repeatOf kind f with
    | some r => s.answerRepeat kind f r
    | none => s.execute kind f body conclude

/-- A command frame is handed on and taken (R136, R161). The roster controller's handling of the frame and the
command's execution are one step, as the table's row is one event, so that the settle point between the two
of which R118 speaks cannot come about. DESIGN CHOICE, log entry 32. -/
def State.command (kind : CommandKind) (f : Frame) (body : State → State × ResultCode × Word16)
    (conclude : ResultCode → Word16 → State → State) (s : State) : State :=
  s.handOver f (State.decode kind f body conclude)

/-- The answer of every command but an addressed RESTART: an ordinary REPLY (R160). -/
def State.answer (kind : CommandKind) (f : Frame) (code : ResultCode) (detail : Word16) (s : State) : State :=
  s.reply kind.frameKind f code false detail false

/-! ### The payload check and dispatch of each command -/

/-- ARM (R165): the result with the schedule occupancy; every result but OK and REPLACED counts under
arms refused (R50). -/
def armBody (f : Frame) (s : State) : State × ResultCode × Word16 :=
  let counted (t : State) (code : ResultCode) : State :=
    if code = .ok ∨ code = .replaced then t
    else { t with counters := { t.counters with armsRefused := bump t.counters.armsRefused } }
  match parseArm f.payload with
  | none => (counted s.refusePayload.1 .badParam, .badParam, 0)
  | some r =>
    let done := s.arm f.sender r
    (counted done.1 done.2, done.2, BitVec.ofNat 16 done.1.schedule.length)

/-- A removal from the schedule: OK or NOT_FOUND with the number removed (R44, R45). -/
def cancelWhere (gone : Entry → Bool) (s : State) : State × ResultCode × Word16 :=
  (s.removeEntries gone .cancelled, if s.removedCount gone = 0 then .notFound else .ok,
    BitVec.ofNat 16 (s.removedCount gone))

/-- CANCEL by tag (R44). -/
def cancelByTagBody (f : Frame) (s : State) : State × ResultCode × Word16 :=
  match parseCancelByTag f.payload with
  | none => s.refusePayload
  | some (origin, tag) => cancelWhere (·.named origin tag) s

/-- CANCEL by channel (R45). -/
def cancelByChannelBody (f : Frame) (s : State) : State × ResultCode × Word16 :=
  match parseCancelByChannel f.payload with
  | none => s.refusePayload
  | some channel =>
    if channel < 8 then cancelWhere (fun e => e.channel.val == channel) s else (s, .badChannel, 0)

/-- SETGEN (R66, R167). -/
def setgenBody (f : Frame) (s : State) : State × ResultCode × Word16 := s.setgen (parseSetgen f.payload)

/-- REACT INSTALL (R99, R168). -/
def installBody (f : Frame) (s : State) : State × ResultCode × Word16 :=
  match parseInstall f.payload with
  | none => s.refusePayload
  | some r =>
    let done := s.install f.sender r
    (done.1, done.2, BitVec.ofNat 16 done.1.occupiedSlots)

/-- REACT REMOVE (R101, R168). -/
def removeBody (f : Frame) (s : State) : State × ResultCode × Word16 :=
  match parseRemove f.payload with
  | none => s.refusePayload
  | some slot =>
    let done := s.removeReaction slot
    (done.1, done.2, BitVec.ofNat 16 done.1.occupiedSlots)

/-- CONTROL RELEASE_HOLD (R76, R172). -/
def releaseHoldBody (f : Frame) (s : State) : State × ResultCode × Word16 :=
  match parseReleaseHold f.payload with
  | none => s.refusePayload
  | some mask => s.release mask

/-- Every counter of the index table to 0 (R173). -/
def State.clearCounters (s : State) : State :=
  { s with
    counters := {}
    channels := Vector.ofFn fun c => { s.channels[c] with skipped := 0 }
    inputs := Vector.ofFn fun i => { s.inputs[i] with suppressed := 0 }
    slots := Vector.ofFn fun i => s.slots[i].map fun r => { r with hits := 0 } }

/-- CONTROL CLEAR_COUNTERS (R172, R173). -/
def clearCountersBody (f : Frame) (s : State) : State × ResultCode × Word16 :=
  if clearCountersFits f.payload then (s.clearCounters, .ok, 0) else s.refusePayload

/-- CONTROL FLUSH_SCHEDULE: the sender's entries, or all (R46, R172). -/
def flushBody (f : Frame) (s : State) : State × ResultCode × Word16 :=
  match parseFlush f.payload with
  | none => s.refusePayload
  | some all =>
    let gone : Entry → Bool := fun e => all || e.origin == f.sender
    (s.removeEntries gone .cancelled, .ok, BitVec.ofNat 16 (s.removedCount gone))

/-- CONTROL RESTART: an addressed one sets restart-pending (R172, R174, R175). -/
def restartBody (f : Frame) (s : State) : State × ResultCode × Word16 :=
  if restartFits f.payload then
    ({ s with restartPending := s.restartPending || f.destination != 31 }, .ok, 0)
  else s.refusePayload

/-- The queue holds the REPLY a pending RESTART waits for (R156). -/
def State.holdsRestartReply (s : State) : Bool := s.queue.any (·.restartReply)

/-- How a RESTART concludes. A broadcast one takes effect at once (R175). An addressed one queues the
restart reply, and takes effect at once if that is lost at its arrival; one taken while
restart-pending was set already queues an ordinary REPLY (R156, R174). A restart reply that arrives after the
entry into SILENCED has emptied the queue lets no restart take effect (R158, R176). -/
def restartConclude (wasPending : Bool) (f : Frame) (code : ResultCode) (detail : Word16) (s : State) : State :=
  if code ≠ .ok then s.reply .control f code false detail false
  else if f.destination = 31 then s.takeRestart
  else if wasPending then s.reply .control f code false detail false
  else
    let t := s.reply .control f code false detail true
    if t.holdsRestartReply || s.arrivesLate then t else t.takeRestart

/-! ### QUERY and REPORT (R169) -/

/-- The records of one REPORT: from the start index on, up to as many as the topic allows (R169). -/
def page (start per : Nat) (records : List (List Byte)) : List (List Byte) := (records.drop start).take per

/-- A REPORT's payload (R197). -/
def reportPayload (topic start total : Nat) (records : List (List Byte)) : List Byte :=
  [byteOf topic, byteOf start, byteOf total, byteOf records.length] ++ records.flatten

/-- A QUERY frame is handed on and taken: an addressed one is answered by a REPORT of the topic's
records, built in the event (R169, R171). -/
def State.query (topic per : Nat) (build : State → List (List Byte)) (f : Frame) (s : State) : State :=
  s.handOver f fun t =>
    if !t.addressed f then t
    else if t.station ≠ .active then t.setAside
    else if f.destination = 31 then t
    else
      let records := build t
      let start := natAt f.payload 1
      t.arrive .report f.sender f.sequence
        (reportPayload topic start records.length (page start per records)) false

/-- The STATUS record (R170, R198). -/
def statusRecord (s : State) : List Byte :=
  [byteOf (stationCode s.station + 128 * bitOf s.restartPending),
    byteOf (syncCode s.sync + 4 * s.lockCount + 16 * s.driftCount)] ++
  bytes32 s.lastDelta ++
  [byteOf s.rank, byteOf s.roster.length, byteOf s.schedule.length, byteOf s.occupiedSlots,
    byteOf (maskOf s.isHeld),
    byteOf ((List.finRange 4).map fun i => bitOf s.inputs[i].level * 2 ^ i.val).sum,
    byteOf (maskOf s.pin)] ++
  bytes16 (BitVec.ofNat 16 ((List.finRange 8).map fun c => genCode s.channels[c].gen * 4 ^ c.val).sum) ++
  bytes16 s.markNumber

/-- A SCHEDULE record (R198). -/
def scheduleRecord (e : Entry) : List Byte :=
  [byteOf e.origin] ++ bytes16 e.tag ++ [byteOf e.channel.val, byteOf (actionCode e.action)] ++
  bytes16 e.param ++ bytes32 e.due ++
  (match e.repetition with
    | none => bytes32 0 ++ bytes16 0
    | some r => bytes32 (BitVec.ofNat 32 r.interval) ++ bytes16 (BitVec.ofNat 16 (r.remaining.getD 0))) ++
  [byteOf (bitOf e.repetition.isSome + 2 * bitOf e.lockRequired + 4 * bitOf e.heldAtLast),
    byteOf (e.notify.getD 0),
    match e.source with
    | none => byteOf 255
    | some i => byteOf i.val]

/-- A CAPTURES record (R198). -/
def captureBytes (r : CaptureRecord) : List Byte :=
  [byteOf (r.input.val + 4 * edgeCode r.edge + 8 * syncCode r.sync)] ++ bytes32 r.time ++ bytes16 r.number

/-- A PEERS record (R198). -/
def peerRecord (p : Peer) : List Byte :=
  [byteOf p.station] ++ bytes32 p.sample ++
  [byteOf p.age, byteOf p.silence, byteOf (syncCode p.reported + 4 * bitOf p.record.isSome)] ++
  (match p.record with
    | none => [0, 0, 0, 0]
    | some r =>
      [BitVec.ofNat 4 (commandKindCode r.kind) ++ r.sequence, byteOf (resultNumber r.code)] ++ bytes16 r.detail)

/-- A REACTIONS record (R198). -/
def slotRecord (i : Fin 24) : Option Reaction → List Byte
  | none => byteOf i.val :: List.replicate 25 0
  | some r =>
    [byteOf i.val, byteOf (r.source.getD 255),
      match r.input with
      | none => byteOf 255
      | some n => byteOf n.val,
      byteOf
        ((match r.edge with
          | none => 2
          | some e => edgeCode e) +
          4 * bitOf r.lockRequired + 8 * bitOf r.repetition.isSome + 16 * bitOf (r.latePolicy == .drop) +
          32 * bitOf (r.retrigger == .keep) + 64 * bitOf r.gate.isSome + 128 * bitOf (r.gate.any (·.2))),
      match r.gate with
      | none => 0
      | some g => byteOf g.1.val,
      byteOf r.channel.val, byteOf (actionCode r.action)] ++
    bytes16 r.param ++ bytes32 (BitVec.ofNat 32 r.delay) ++
    (match r.repetition with
      | none => bytes32 0 ++ bytes16 0
      | some n => bytes32 (BitVec.ofNat 32 n.interval) ++ bytes16 (BitVec.ofNat 16 (n.remaining.getD 0))) ++
    [byteOf (r.notify.getD 0)] ++ bytes16 r.tag ++ [byteOf r.installer] ++ bytes16 r.hits ++
    [byteOf (lastOutcomeCode r.lastOutcome)]

/-- A CHANNELS record (R198). -/
def channelRecord (g : ChannelSettings) (ch : Channel) : List Byte :=
  [byteOf (modeCode g.mode + 4 * bitOf g.invert + 8 * bitOf g.holdOnLoss + 16 * bitOf g.safe + 32 * holdCode ch.hold),
    byteOf
      (bitOf ch.latch + 2 * bitOf ch.pulse.isSome + 4 * bitOf (ch.pulse.any (·.level)) +
        8 * bitOf ch.burst.isSome + 16 * bitOf (ch.burst.any (·.activeHalf)) + 32 * genCode ch.gen +
        128 * bitOf ch.phaseHigh)] ++
  bytes16 (BitVec.ofNat 16 ((ch.burst.map (·.cycles)).getD 0)) ++
  bytes32 ((ch.pulse.map (·.stop)).getD 0) ++ bytes32 ((ch.burst.map (·.stop)).getD 0) ++
  bytes16 ch.activeSet.period ++ bytes16 ch.activeSet.high ++
  bytes16 ((ch.pendingSet.map (·.period)).getD 0) ++ bytes16 ((ch.pendingSet.map (·.high)).getD 0) ++
  bytes32 ch.frameStart ++ bytes16 ch.frameCount ++ bytes16 ch.skipped

/-- The peers in roster order, from the front (R127). -/
def State.peersInOrder (s : State) : List Peer := s.roster.filterMap fun n => s.peer? n

/-- The counters in the order of the counter index table (R199). -/
def State.counterList (s : State) : List Word16 :=
  let n := s.counters
  [n.clampedCorrections, n.lossesOfLock, n.largeSteps, n.armsRefused, n.dropped, n.repeatsSkipped, n.fired,
    n.pulsesCut, n.burstsCut, n.framesSkipped, n.generatorRestarts] ++
  (List.finRange 8).map (fun c => s.channels[c].skipped) ++
  (List.finRange 4).map (fun i => s.inputs[i].suppressed) ++
  [n.logOverruns, n.badMarks, n.reactionsGated, n.reactionsUnsynced, n.reactionsLate, n.reactionsTooFar,
    n.reactionsKept, n.reactionsFull] ++
  (List.finRange 24).map (fun i => (s.slots[i].map (·.hits)).getD 0) ++
  [n.cleanFrames, n.crcErrors, n.malformed, n.broken, n.collisions, n.abandoned, n.foreignAnswers,
    n.lostReplies, n.lostNotices, n.lostMarks, n.lostAnnouncements, n.setAside, n.duplicates, n.payloadRefusals]

/-- The records of topic STATUS. -/
def statusRecords (s : State) : List (List Byte) := [statusRecord s]

/-- The records of topic SCHEDULE, in schedule order (R27). -/
def scheduleRecords (s : State) : List (List Byte) := s.schedule.map scheduleRecord

/-- The records of topic CAPTURES, newest first (R89). -/
def captureRecords (s : State) : List (List Byte) := s.captureLog.reverse.map captureBytes

/-- The records of topic PEERS (R127). -/
def peerRecords (s : State) : List (List Byte) := s.peersInOrder.map peerRecord

/-- The records of topic REACTIONS, by slot (R113). -/
def slotRecords (s : State) : List (List Byte) := (List.finRange 24).map fun i => slotRecord i s.slots[i]

/-- The records of topic COUNTERS (R199). -/
def counterRecords (s : State) : List (List Byte) := s.counterList.map bytes16

/-- The records of topic CHANNELS. -/
def channelRecords (s : State) : List (List Byte) :=
  (List.finRange 8).map fun c => channelRecord s.settings.channels[c] s.channels[c]

end Sys2Proof.Machine
end

