-- ==== Sys2Proof/WellFormed.lean ====
section
/-! DEFINITION. Which terms of the syntax name a command of the block. -/

namespace Sys2Proof

open Machine (lengthAllowed natAt)

/-- A frame the line interface can hand on as one of a kind: sender 1..30, destination 1..31, a
length allowed for the kind (R135). -/
def Frame.wellFormed (kind : FrameKind) (f : Frame) : Bool :=
  decide (1 ≤ f.sender) && decide (f.sender ≤ 30) && decide (1 ≤ f.destination) &&
    decide (f.destination ≤ 31) && lengthAllowed kind f.payload.length

/-- The kinds of the commands (R136). -/
def FrameKind.isCommand : FrameKind → Bool
  | .arm | .cancel | .setgen | .react | .query | .control => true
  | .hello | .stamp | .mark | .report | .reply | .notice => false

/-- The kinds of the answers (R136). -/
def FrameKind.isAnswer : FrameKind → Bool
  | .report | .reply | .notice => true
  | .hello | .stamp | .mark | .arm | .cancel | .setgen | .react | .query | .control => false

/-- The six acts of a settle point, in one of their orders. -/
def SettleAct.all : List SettleAct := [.agePeers, .stampDuty, .listenCount, .hold, .generators, .schedule]

/-- An order of the six acts, each of them once. -/
def SettleAct.isOrder (order : List SettleAct) : Bool :=
  order.length == 6 && SettleAct.all.all (fun a => order.contains a)

/-- A step that the table has. -/
def OvertakenStep.wellFormed : OvertakenStep → Bool
  | .entryDue => true
  | .settlePoint order => SettleAct.isOrder order
  | .captureEdge _ _ _ => true
  | .delivered k f => f.wellFormed k

/-- A command of the block. The code in a payload's first byte decides between the rows of one
kind; an undefined code belongs to the row the syntax names for it (the payload check of R163 then
refuses it). -/
def Instr.wellFormed : Instr → Bool
  | .powerOn => true
  | .resetNAsserted => true
  | .resetNReleased memory => memory.length == 96
  | .configReadEnd => true
  | .settlePoint order => SettleAct.isOrder order
  | .captureEdge _ _ _ => true
  | .holdOffExpiry _ => true
  | .entryDue => true
  | .pulseEnd _ => true
  | .burstHalfEnd _ => true
  | .deadBandExpiry _ => true
  | .genHighEnd _ => true
  | .genFrameEnd _ => true
  | .activityBegins => true
  | .breakHeard => true
  | .lineGoesQuiet _ _ _ => true
  | .quietCountStep => true
  | .helloReceived f => f.wellFormed .hello
  | .stampReceived f => f.wellFormed .stamp
  | .markReceived f => f.wellFormed .mark
  | .foreignAnswer k f => k.isAnswer && f.wellFormed k
  | .duplicateNumberFrame k f overtaken => f.wellFormed k && overtaken.all fun o => o.step.wellFormed
  | .arm f => f.wellFormed .arm
  | .cancelByTag f => f.wellFormed .cancel && natAt f.payload 0 != 1
  | .cancelByChannel f => f.wellFormed .cancel && natAt f.payload 0 == 1
  | .setgen f => f.wellFormed .setgen
  | .reactInstall f => f.wellFormed .react && natAt f.payload 0 != 1
  | .reactRemove f => f.wellFormed .react && natAt f.payload 0 == 1
  | .queryStatus f => f.wellFormed .query && natAt f.payload 0 == 0
  | .querySchedule f => f.wellFormed .query && natAt f.payload 0 == 1
  | .queryCaptures f => f.wellFormed .query && natAt f.payload 0 == 2
  | .queryPeers f => f.wellFormed .query && natAt f.payload 0 == 3
  | .queryReactions f => f.wellFormed .query && natAt f.payload 0 == 4
  | .queryCounters f => f.wellFormed .query && natAt f.payload 0 == 5
  | .queryChannels f => f.wellFormed .query && natAt f.payload 0 == 6
  | .releaseHold f => f.wellFormed .control && (natAt f.payload 0 == 0 || decide (3 < natAt f.payload 0))
  | .clearCounters f => f.wellFormed .control && natAt f.payload 0 == 1
  | .flushSchedule f => f.wellFormed .control && natAt f.payload 0 == 2
  | .restart f => f.wellFormed .control && natAt f.payload 0 == 3
  | .transmissionBegins => true
  | .collision => true
  | .breakRelease => true
  | .ownFrameCleanEnd => true
  | .stampPointOfIncomingFrame => true
  | .stampPointOfOwnFrame => true
  | .inputEdgeNotOfInterest _ _ => true
  | .commandForAnotherStation k f => k.isCommand && f.wellFormed k
  | .queryUnknownTopic f => f.wellFormed .query && decide (6 < natAt f.payload 0)

end Sys2Proof
end

