-- ==== Sys2Proof/Machine/Station.lean ====
section
/-! DEFINITION. Reset, configuration and the settle point (chapters 1 and 10). -/

namespace Sys2Proof.Machine

/-- What a step answers. -/
abbrev Answer := Host.Outcome State Fault Refusal

/-- The answer to a command: its next state, if the term names a command at all. -/
def whenFormed (i : Instr) (t : State) : Answer := if i.wellFormed then .next t else .refused .illFormed

/-- Every block in its initial state with RESET_N held low; the commands the world has yet to send, the
levels it drives on the CI pins, and the model's own draw number, are no state of the station (R180). -/
def State.initial (s : State) : State :=
  { State.reset with pending := s.pending, inputPins := s.inputPins, draws := s.draws }

/-- POWER_ON: acts as an assertion of RESET_N (R180). -/
def execPowerOn (s : State) : Answer := .next s.initial

/-- RESET_N_ASSERTED: CONFIGURING at once, from any state (R180). -/
def execResetNAsserted (s : State) : Answer := .next s.initial

/-- RESET_N_RELEASED: local time counts, and the configuration read begins (R1, R181). -/
def execResetNReleased (memory : List Byte) (s : State) : Answer :=
  whenFormed (.resetNReleased memory)
    (if s.resetHeld then { s with resetHeld := false, reading := true, imageBits := [], cfgMemory := memory } else s)

/-- The configuration read has clocked in its last byte: 3,168 ticks after the release (R181). -/
def State.readComplete (s : State) : Bool :=
  s.station == .configuring && s.reading && s.localTime == configReadTicks

/-- The read is over, and no copy of the image is kept (R181). -/
def State.endRead (s : State) : State := { s with reading := false, imageBits := [] }

/-- An image that fails: CONFIG_FAULT, and no value of it takes effect (R184). -/
def State.refuseImage (s : State) : State := { s.endRead with station := .configFault }

/-- An image that passes: its values take effect, and the station enters LISTENING (R185). The line
interface leaves OFF with a stretch it passes over until the line goes quiet (R137). -/
def State.acceptImage (image : List Byte) (s : State) : State :=
  let g := imageSettings image
  let t :=
    { s.endRead with
      station := .listening
      listenCount := 0
      restartPending := false
      settings := g
      settleNext := some (later s.localTime g.settleInterval)
      line := { s.line with condition := .busy, passedOver := true } }
  t.initialChannels.initialInputs

/-- CONFIG_READ_END: the image held is checked, and its outcome decided (R181 to R185). -/
def execConfigReadEnd (s : State) : Answer :=
  .next
    (if !s.readComplete then s
      else if imagePasses (bitsBytes s.imageBits) then s.acceptImage (bitsBytes s.imageBits)
      else s.refuseImage)

/-- Stamp duty at a settle point (R154). -/
def State.stampDuty (s : State) : State :=
  let t :=
    if s.station = .active ∧ s.finished = false ∧ s.queue.any (·.kind == .stamp) = false then
      s.arrive .stamp 31 0 [] false
    else s
  { t with finished := false }

/-- Station control counts a settle point toward the listen time (R186). -/
def State.countListen (s : State) : State :=
  if s.station = .listening then
    let t := { s with listenCount := s.listenCount + 1 }
    if s.settings.listenTime ≤ s.listenCount + 1 then t.activate else t
  else s

/-- What one block does at an announced settle point (R8). A loss of lock in SILENCED holds no
channel (R73). -/
def State.settleAct (news : SettleNews) (a : SettleAct) (s : State) : State :=
  match a with
  | .agePeers => s.agePeers
  | .stampDuty => s.stampDuty
  | .listenCount => s.countListen
  | .hold => if news.lossOfLock && s.station != .silenced then s.holdOnLoss .loss else s
  | .generators => s.stepGenerators news.change
  | .schedule => s.stepSchedule news.change

/-- The settle timer, which runs outside CONFIGURING and CONFIG_FAULT, expires (R7). -/
def State.settleExpires (s : State) : Bool := s.station.receives && s.settleNext.any s.localReached

/-- A settle point (R8): the line time unit's own work, then the blocks' acts in the order given. -/
def State.settle (order : List SettleAct) (s : State) : State :=
  (order.foldl (fun t a => t.settleAct s.settleNews a) s.settleUnit).followPairs

/-- SETTLE_POINT (R8). -/
def execSettlePoint (order : List SettleAct) (s : State) : Answer :=
  whenFormed (.settlePoint order) (if s.settleExpires then s.settle order else s)

end Sys2Proof.Machine
end

