-- ==== Sys2Proof/Machine/Capture.lean ====
section
/-! DEFINITION. The commands of the capture inputs (chapter 4). -/

namespace Sys2Proof.Machine

/-- CAPTURE_EDGE: the level changes; an edge of interest is suppressed, counted by the prescaler or
captured (R85, R86). A level already held, or a second sample in one tick, gives no edge (R84); where the
inputs are not sampled, only the pin changes. -/
def execCaptureEdge (i : Fin 4) (e : Edge) (markFirst : Bool) (s : State) : Answer :=
  .next
    (if !s.station.samples then s.drivePin i (levelAfter e)
      else if !s.sees i e then s
      else if s.settings.inputs[i].mode.interested e then
        ((s.setLevel i (levelAfter e)).edgeOfInterest i e markFirst).followPairs
      else s.setLevel i (levelAfter e))

/-- A hold-off in flight on the input has reached its end (R86). -/
def State.holdOffEnds (i : Fin 4) (s : State) : Bool := s.inputs[i].holdOffEnd.any s.localReached

/-- HOLD_OFF_EXPIRY (R86). -/
def execHoldOffExpiry (i : Fin 4) (s : State) : Answer :=
  .next (if s.holdOffEnds i then s.setInput i { s.inputs[i] with holdOffEnd := none } else s)

/-- INPUT_EDGE_NOT_OF_INTEREST: the level held for gates and status changes, and nothing else (R84, R85,
R93). An edge that is of interest in the input's mode is no such event, and changes nothing (DESIGN
CHOICE, log entry 14). -/
def execInputEdgeNotOfInterest (i : Fin 4) (e : Edge) (s : State) : Answer :=
  .next
    (if !s.station.samples then s.drivePin i (levelAfter e)
      else if s.sees i e && !s.settings.inputs[i].mode.interested e then s.setLevel i (levelAfter e)
      else s)

end Sys2Proof.Machine
end

