-- ==== Sys2Proof/Machine/Firing.lean ====
section
/-! DEFINITION. The commands of the schedule's and the channels' own moments (chapters 2 and 3). A
command whose moment has not come names no event, and changes nothing. -/

namespace Sys2Proof.Machine

/-- ENTRY_DUE: the entries whose due is reached fire, in schedule order (R37). -/
def execEntryDue (s : State) : Answer := .next s.fireReached.followPairs

/-- A pulse in flight has reached its end (R58). -/
def State.pulseEnds (c : Fin 8) (s : State) : Bool := s.channels[c].pulse.any fun p => s.localReached p.stop

/-- PULSE_END: the pulse is removed (R58). -/
def execPulseEnd (c : Fin 8) (s : State) : Answer :=
  .next
    (if s.pulseEnds c then (s.setChannel c { s.channels[c] with pulse := none }).followPairs else s)

/-- A burst half has reached its end (R59). -/
def State.burstHalfEnds (c : Fin 8) (s : State) : Bool :=
  s.channels[c].burst.any fun b => s.localReached b.stop

/-- The burst after the end of its half: the ACTIVE half gives way to the INACTIVE one, the INACTIVE
one to the next cycle's, or to no burst when no cycle remains (R59). -/
def Burst.next (half : Nat) (b : Burst) : Option Burst :=
  if b.activeHalf then some { b with activeHalf := false, stop := later b.stop half }
  else if b.cycles ≤ 1 then none
  else some ⟨b.cycles - 1, true, later b.stop half⟩

/-- BURST_HALF_END (R59). -/
def execBurstHalfEnd (c : Fin 8) (s : State) : Answer :=
  .next
    (if s.burstHalfEnds c then
      (s.setChannel c
        { s.channels[c] with burst := s.channels[c].burst.bind (Burst.next s.settings.carrierHalf) }).followPairs
      else s)

/-- A pair's pending turn-on has reached its expiry (R72). -/
def State.deadBandEnds (p : Fin 4) (s : State) : Bool := s.pairs[p].drive.turnOn.any s.localReached

/-- DEAD_BAND_EXPIRY: the channel's drive goes to 1 (R72). -/
def execDeadBandExpiry (p : Fin 4) (s : State) : Answer :=
  .next (if s.deadBandEnds p then { s with pairs := s.pairs.set p (s.pairs[p].expire s.localTime) } else s)

/-- A generator's frame end has been reached by running (R65). -/
def State.frameEnds (c : Fin 8) (s : State) : Bool := s.channels[c].generates && s.lineReached s.channels[c].frameEnd

/-- A generator's high end has been reached by running (R64). -/
def State.highEnds (c : Fin 8) (s : State) : Bool :=
  s.channels[c].generates && s.channels[c].phaseHigh && s.lineReached s.channels[c].highEnd

/-- GEN_FRAME_END: the frame completes (R65). -/
def execGenFrameEnd (c : Fin 8) (s : State) : Answer :=
  .next (if s.frameEnds c then (s.setChannel c s.channels[c].completeFrame).followPairs else s)

/-- GEN_HIGH_END: the phase moves to LOW (R64); a high end that coincides with the frame end is one
event with the frame's completion (R65). -/
def execGenHighEnd (c : Fin 8) (s : State) : Answer :=
  .next
    (if s.highEnds c then
      (s.setChannel c (if s.frameEnds c then s.channels[c].completeFrame else s.channels[c].endHigh)).followPairs
      else s)

end Sys2Proof.Machine
end

