-- ==== Sys2Proof/Machine/Flags.lean ====
section
/-! DEFINITION. The status outputs, the configuration port and the line, as the state drives them. The
eight CO pins are `State.pin` (Channels.lean). -/

namespace Sys2Proof.Machine

/-- SYNC: high while the station is in lock (R20). -/
def State.syncPin (s : State) : Bool := s.inLock

/-- FAULT: high in CONFIG_FAULT and SILENCED (R192). -/
def State.faultPin (s : State) : Bool :=
  match s.station with
  | .configFault | .silenced => true
  | .configuring | .listening | .active => false

/-- CFG_SEL, active low: low while the configuration read is in progress (R180, R181). -/
def State.cfgSelPin (s : State) : Bool := !(s.reading && decide (s.localTime.toNat < configReadTicks.toNat))

/-- CFG_CLK: REFCLK divided by 4 during the read, low otherwise. Each period is low, then high: its
rising edge samples CFG_DIN, and CFG_DOUT changes after the falling edge that ends it (R181).
DEDUCED, log entry 8. -/
def State.cfgClkPin (s : State) : Bool := !s.cfgSelPin && decide (2 ≤ s.localTime.toNat % 4)

/-- CFG_DOUT during the three command bytes of the read, one bit in 4 ticks: the read command 0x03 and
the start address 0x0000 (R181). The manual gives it no level at other times. -/
def State.cfgDoutPin (s : State) : Option Bool :=
  if s.cfgSelPin then none else (bytesBits [0x03#8, 0x00#8, 0x00#8])[s.localTime.toNat / 4]?

/-- CFG_DIN: what the memory gives in the data positions of the read, and otherwise the level of the
internal pull-up (R181). -/
def State.cfgDinPin (s : State) : Bool :=
  if s.cfgSelPin || decide (s.localTime.toNat / 4 < 24) then true
  else (bytesBits s.cfgMemory)[s.localTime.toNat / 4 - 24]?.getD true

/-- The rising edge of CFG_CLK in a data position: CFG_DIN is sampled (R181). -/
def State.samplesDin (s : State) : Bool :=
  !s.cfgSelPin && decide (24 ≤ s.localTime.toNat / 4) && decide (s.localTime.toNat % 4 = 2)

/-- The level the station drives in the n-th half cell of the attempt in progress: dominant (true), or
released (R130, R140). After the last cell of the end pattern the line is released (R131). -/
def State.halfDriven (s : State) (n : Nat) : Bool := (s.cellsOnLine.flatMap cellHalves)[n]?.getD false

/-- The station drives the line dominant at the present tick: in the halves of the frame it sends, two
in each bit time of 10, 5, 2.5 or 1.25 ticks, and throughout a break. In every other condition the line
is released (R130, R132, R141, R142). -/
def State.drivesLine (s : State) : Bool :=
  match s.line.condition with
  | .sending => s.halfDriven (forward s.line.sendStart s.localTime * 2 ^ s.settings.rateCode / 5)
  | .breaking => true
  | .off | .quiet | .busy => false

end Sys2Proof.Machine
end

