-- ==== Sys2Proof/Machine/Commands.lean ====
section
/-! DEFINITION. The commands computers send (R165 to R168, R172 to R175). -/

namespace Sys2Proof.Machine

/-- ARM (R29, R165). -/
def execArm (f : Frame) (s : State) : Answer :=
  whenFormed (.arm f) (s.command .arm f (armBody f) (State.answer .arm f)).followPairs

/-- CANCEL_BY_TAG (R44, R166). -/
def execCancelByTag (f : Frame) (s : State) : Answer :=
  whenFormed (.cancelByTag f) (s.command .cancel f (cancelByTagBody f) (State.answer .cancel f))

/-- CANCEL_BY_CHANNEL (R45, R166). -/
def execCancelByChannel (f : Frame) (s : State) : Answer :=
  whenFormed (.cancelByChannel f) (s.command .cancel f (cancelByChannelBody f) (State.answer .cancel f))

/-- SETGEN (R66, R167). -/
def execSetgen (f : Frame) (s : State) : Answer :=
  whenFormed (.setgen f) (s.command .setgen f (setgenBody f) (State.answer .setgen f))

/-- REACT_INSTALL (R99, R168). -/
def execReactInstall (f : Frame) (s : State) : Answer :=
  whenFormed (.reactInstall f) (s.command .react f (installBody f) (State.answer .react f))

/-- REACT_REMOVE (R101, R168). -/
def execReactRemove (f : Frame) (s : State) : Answer :=
  whenFormed (.reactRemove f) (s.command .react f (removeBody f) (State.answer .react f))

/-- RELEASE_HOLD (R76, R172). -/
def execReleaseHold (f : Frame) (s : State) : Answer :=
  whenFormed (.releaseHold f) (s.command .control f (releaseHoldBody f) (State.answer .control f))

/-- CLEAR_COUNTERS (R173). -/
def execClearCounters (f : Frame) (s : State) : Answer :=
  whenFormed (.clearCounters f) (s.command .control f (clearCountersBody f) (State.answer .control f))

/-- FLUSH_SCHEDULE (R46, R172). -/
def execFlushSchedule (f : Frame) (s : State) : Answer :=
  whenFormed (.flushSchedule f) (s.command .control f (flushBody f) (State.answer .control f))

/-- RESTART (R174, R175). -/
def execRestart (f : Frame) (s : State) : Answer :=
  whenFormed (.restart f) (s.command .control f (restartBody f) (restartConclude s.restartPending f))

end Sys2Proof.Machine
end

