-- ==== Sys2Proof/Machine/Frames.lean ====
section
/-! DEFINITION. Clean frames handed on that are no commands for this station (R136). -/

namespace Sys2Proof.Machine

/-- HELLO_RECEIVED: no block beyond the roster controller (R116, R136). -/
def execHelloReceived (f : Frame) (s : State) : Answer :=
  whenFormed (.helloReceived f) (s.handOver f fun t => t)

/-- STAMP_RECEIVED: no block beyond the roster controller (R116, R136). -/
def execStampReceived (f : Frame) (s : State) : Answer :=
  whenFormed (.stampReceived f) (s.handOver f fun t => t)

/-- The capture unit takes a MARK frame: addressed to this station or to all, in LISTENING or ACTIVE,
its payload is checked and delivered to the reaction table (R92). In SILENCED nothing is checked, so a
bad payload is not counted there (DESIGN CHOICE, log entry 30). -/
def State.takeMarkFrame (f : Frame) (s : State) : State :=
  if s.addressed f ∧ (s.station = .listening ∨ s.station = .active) then
    match parseMark f.sender f.payload with
    | some m => s.takeMark m
    | none => { s with counters := { s.counters with badMarks := bump s.counters.badMarks } }
  else s

/-- MARK_RECEIVED (R92). -/
def execMarkReceived (f : Frame) (s : State) : Answer :=
  whenFormed (.markReceived f) (s.handOver f (State.takeMarkFrame f)).followPairs

/-- FOREIGN_ANSWER: counted, whatever the destination (R136). -/
def execForeignAnswer (kind : FrameKind) (f : Frame) (s : State) : Answer :=
  whenFormed (.foreignAnswer kind f)
    (s.handOver f fun t => { t with counters := { t.counters with foreignAnswers := bump t.counters.foreignAnswers } })

/-- COMMAND_FOR_ANOTHER_STATION: no block after the roster controller (R136). A frame that is addressed to this
station or to all is no such event, and changes nothing (DESIGN CHOICE, log entry 33). -/
def execCommandForAnotherStation (kind : FrameKind) (f : Frame) (s : State) : Answer :=
  whenFormed (.commandForAnotherStation kind f) (if s.addressed f then s else s.handOver f fun t => t)

end Sys2Proof.Machine
end

