-- ==== Sys2Proof/Machine/Queries.lean ====
section
/-! DEFINITION. The QUERY commands (R169 to R171), with the records per REPORT of each topic. -/

namespace Sys2Proof.Machine

/-- QUERY_STATUS (R170). -/
def execQueryStatus (f : Frame) (s : State) : Answer :=
  whenFormed (.queryStatus f) (s.query 0 1 statusRecords f)

/-- QUERY_SCHEDULE (R27, R169). -/
def execQuerySchedule (f : Frame) (s : State) : Answer :=
  whenFormed (.querySchedule f) (s.query 1 1 scheduleRecords f)

/-- QUERY_CAPTURES (R89). -/
def execQueryCaptures (f : Frame) (s : State) : Answer :=
  whenFormed (.queryCaptures f) (s.query 2 4 captureRecords f)

/-- QUERY_PEERS (R127). -/
def execQueryPeers (f : Frame) (s : State) : Answer :=
  whenFormed (.queryPeers f) (s.query 3 2 peerRecords f)

/-- QUERY_REACTIONS (R113). -/
def execQueryReactions (f : Frame) (s : State) : Answer :=
  whenFormed (.queryReactions f) (s.query 4 1 slotRecords f)

/-- QUERY_COUNTERS (R199). -/
def execQueryCounters (f : Frame) (s : State) : Answer :=
  whenFormed (.queryCounters f) (s.query 5 14 counterRecords f)

/-- QUERY_CHANNELS (R170). -/
def execQueryChannels (f : Frame) (s : State) : Answer :=
  whenFormed (.queryChannels f) (s.query 6 1 channelRecords f)

/-- A QUERY with an undefined topic, once taken: BAD_PARAM by a REPLY, counted under payload
refusals; nothing is recorded (R163, R169). -/
def State.refuseTopic (f : Frame) (s : State) : State :=
  if !s.addressed f then s
  else if s.station ≠ .active then s.setAside
  else s.refusePayload.1.reply .query f .badParam false 0 false

/-- QUERY_UNKNOWN_TOPIC (R169). -/
def execQueryUnknownTopic (f : Frame) (s : State) : Answer :=
  whenFormed (.queryUnknownTopic f) (s.handOver f (State.refuseTopic f))

end Sys2Proof.Machine
end

