-- ==== Sys2Proof/Machine/Duplicate.lean ====
section
/-! DEFINITION. A clean frame handed on by its row, and the frame that bears this station's own number, with
the step of the same moment that it may overtake (R126, R136, R158, R176). -/

namespace Sys2Proof.Machine

/-- A clean frame from another station is handed on by its row: by its kind and, for a command, its
destination and the code in its payload's first byte (R136). -/
def State.deliverOther (kind : FrameKind) (f : Frame) (s : State) : Answer :=
  let code := natAt f.payload 0
  if kind.isCommand && !s.addressed f then execCommandForAnotherStation kind f s
  else
    match kind with
    | .hello => execHelloReceived f s
    | .stamp => execStampReceived f s
    | .mark => execMarkReceived f s
    | .report | .reply | .notice => execForeignAnswer kind f s
    | .arm => execArm f s
    | .setgen => execSetgen f s
    | .cancel => if code = 1 then execCancelByChannel f s else execCancelByTag f s
    | .react => if code = 1 then execReactRemove f s else execReactInstall f s
    | .query =>
      match code with
      | 0 => execQueryStatus f s
      | 1 => execQuerySchedule f s
      | 2 => execQueryCaptures f s
      | 3 => execQueryPeers f s
      | 4 => execQueryReactions f s
      | 5 => execQueryCounters f s
      | 6 => execQueryChannels f s
      | _ => execQueryUnknownTopic f s
    | .control =>
      match code with
      | 1 => execClearCounters f s
      | 2 => execFlushSchedule f s
      | 3 => execRestart f s
      | _ => execReleaseHold f s

/-- What follows in the same event. -/
def afterwards (g : State → State) : Answer → Answer
  | .next t => .next (g t)
  | .fault e => .fault e
  | .refused r => .refused r

/-- The overtaken step is taken, with the effect of its row. -/
def State.takeOvertaken (o : OvertakenStep) (s : State) : Answer :=
  match o with
  | .entryDue => execEntryDue s
  | .settlePoint order => execSettlePoint order s
  | .captureEdge i e markFirst => execCaptureEdge i e markFirst s
  | .delivered kind f => if f.sender = s.settings.station then .next s.duplicateFound else s.deliverOther kind f

/-- The duplicate is found after a step of the same moment, and before the last of the frames that step makes
in ACTIVE reach the transmit queue: these arrive in an emptied queue, outside ACTIVE, and are lost (R150, R158,
R176). DESIGN CHOICE, log entry 31. -/
def State.overtake (o : Overtaken) (s : State) : Answer :=
  afterwards (fun t => State.duplicateFound { t with queueShutFrom := none })
    (State.takeOvertaken o.step
      { s with queueShutFrom := if s.station = .active then some (s.nextAge + o.placed) else none })

/-- DUPLICATE_NUMBER_FRAME (R126, R188). A frame that bears another station's number is no such event, and
changes nothing (DESIGN CHOICE, log entry 33). -/
def execDuplicateNumberFrame (kind : FrameKind) (f : Frame) (overtaken : Option Overtaken) (s : State) : Answer :=
  if !(Instr.duplicateNumberFrame kind f overtaken).wellFormed then .refused .illFormed
  else if f.sender ≠ s.settings.station then .next s
  else
    match overtaken with
    | none => .next s.duplicateFound
    | some o => s.overtake o

end Sys2Proof.Machine
end

