-- ==== Sys2Proof/Machine/LineEvents.lean ====
section
/-! DEFINITION. The commands of the line interface (chapter 7): hearing the line, sending, colliding. -/

namespace Sys2Proof.Machine

/-- The station begins to transmit: ACTIVE, QUIET, target reached, queue not empty (R138, R140). -/
def State.readyToSend (s : State) : Bool :=
  s.station == .active && s.line.condition == .quiet && !s.queue.isEmpty &&
    (match s.line.target, s.line.quietCount with
      | some target, some count => decide (target ≤ count)
      | _, _ => false)

/-- The most the quiet count reaches (R132). -/
def quietLimit : Nat := 63

/-- A whole gap unit more of quiet has passed (R132). -/
def State.quietStepDue (s : State) : Bool :=
  s.line.condition == .quiet && s.line.quietCount.any (fun n => decide (n < quietLimit)) &&
    s.localReached s.line.nextStep

/-- The station's transmission is due to begin in this moment, whether or not the quiet count step that
reaches the target has been taken (R138, R139). With the queue still empty it is not due: activity taken ahead
of a frame that arrives in the same moment, the target reached before, finds nothing to send, and its stretch is
received. DEDUCED, log entry 16. -/
def State.sendDue (s : State) : Bool :=
  s.station == .active && s.line.condition == .quiet && !s.queue.isEmpty &&
    (match s.line.target, s.line.quietCount with
      | some target, some count => decide (target ≤ count + bitOf s.quietStepDue)
      | _, _ => false)

/-- ACTIVITY_BEGINS: a quiet period and its deferral end, and a stretch begins (R132, R139). It is received
(R133), unless it begins in the moment in which the station's own transmission is due to begin: then it
is not received as a frame (R139, log entry 16). -/
def execActivityBegins (s : State) : Answer :=
  .next
    (if s.line.condition = .quiet then
      { s with
        line :=
          { s.line with
            condition := .busy
            passedOver := s.sendDue
            breakNoted := false
            quietCount := none
            target := none } }
      else s)

/-- A stretch is being received (R133). -/
def LineInterface.receiving (v : LineInterface) : Bool := v.condition == .busy && !v.passedOver

/-- BREAK_HEARD: noted for the stretch being received (R133). -/
def execBreakHeard (s : State) : Answer :=
  .next (if s.line.receiving then { s with line := { s.line with breakNoted := true } } else s)

/-- STAMP_POINT_OF_INCOMING_FRAME: local time is latched (R5). -/
def execStampPointOfIncomingFrame (s : State) : Answer :=
  .next (if s.line.receiving then { s with line := { s.line with latched := some s.localTime } } else s)

/-- The stretch is discarded with its latched time (R134). -/
def State.discardStretch (s : State) : State := { s with line := { s.line with latched := none } }

/-- A quiet period begins: the quiet count is 0, and in ACTIVE the rank is read and a deferral target
formed (R132, R138). -/
def State.beginQuiet (s : State) : State :=
  { s with
    line :=
      { s.line with
        condition := .quiet
        passedOver := false
        breakNoted := false
        quietCount := some 0
        nextStep := later s.localTime s.settings.gapTicks
        target := if s.station = .active then some s.deferralTarget else none } }

/-- A clean frame is handed on by its sender (R136). -/
def State.deliver (kind : FrameKind) (f : Frame) (s : State) : Answer :=
  if f.sender = s.settings.station then execDuplicateNumberFrame kind f none s else s.deliverOther kind f

/-- A received stretch is judged and counted, a clean frame is handed on in the same event, anything else
is discarded, and a quiet period begins (R133, R134, R136). `frameFirst`: the frame is handed on before the
quiet period begins (R125). -/
def State.endStretch (cells : List Bool) (more frameFirst : Bool) (s : State) : Answer :=
  match judge s.line.breakNoted cells more with
  | .broken => .next (s.discardStretch.count fun n => { n with broken := bump n.broken }).beginQuiet
  | .crcError => .next (s.discardStretch.count fun n => { n with crcErrors := bump n.crcErrors }).beginQuiet
  | .malformed => .next (s.discardStretch.count fun n => { n with malformed := bump n.malformed }).beginQuiet
  | .clean kind f =>
    let t := s.count fun n => { n with cleanFrames := bump n.cleanFrames }
    if frameFirst then afterwards State.beginQuiet (t.deliver kind f) else t.beginQuiet.deliver kind f

/-- LINE_GOES_QUIET: the stretch in progress is judged, unless it is one passed over, and a new quiet
period begins (R132, R133, R137, R141). -/
def execLineGoesQuiet (cells : List Bool) (more frameFirst : Bool) (s : State) : Answer :=
  if s.line.condition ≠ .busy then .next s
  else if s.line.passedOver then .next s.discardStretch.beginQuiet
  else s.endStretch cells more frameFirst

/-- QUIET_COUNT_STEP (R132). -/
def execQuietCountStep (s : State) : Answer :=
  .next
    (if s.quietStepDue then
      { s with
        line :=
          { s.line with
            quietCount := s.line.quietCount.map (· + 1)
            nextStep := later s.line.nextStep s.settings.gapTicks } }
      else s)

/-- The head of the queue becomes the frame on the line (R152). -/
def putHeadOnLine : List TxFrame → List TxFrame
  | [] => []
  | f :: rest => { f with onLine := true } :: rest

/-- TRANSMISSION_BEGINS: the head frame goes on the line and the backoff is cleared (R140). -/
def execTransmissionBegins (s : State) : Answer :=
  .next
    (if s.readyToSend then
      { s with
        queue := putHeadOnLine s.queue
        line :=
          { s.line with
            condition := .sending
            quietCount := none
            target := none
            backoff := none
            sendStart := s.localTime
            stamped := none } }
      else s)

/-- The stamp point of the attempt in progress, 16 bit times after its start, is reached (R193, R194). -/
def State.ownStampDue (s : State) : Bool :=
  s.line.condition == .sending && s.line.stamped.isNone &&
    s.localReached (later s.line.sendStart (2 * s.settings.gapTicks))

/-- STAMP_POINT_OF_OWN_FRAME: the line time and sync state of this tick are inserted (R4). -/
def execStampPointOfOwnFrame (s : State) : Answer :=
  .next (if s.ownStampDue then { s with line := { s.line with stamped := some (s.lineTime, s.sync) } } else s)

/-- The most collisions a frame meets (R142). -/
def attemptLimit : Nat := 6

/-- The frame on the line meets a collision and stays in the queue (R142, R152). -/
def TxFrame.collide (f : TxFrame) : TxFrame :=
  if f.onLine then { f with attempts := f.attempts + 1, onLine := false } else f

/-- The station stops sending and drives a break of 2 gap units; the collision is counted (R142). -/
def State.startBreak (s : State) : State :=
  { s with
    line :=
      { s.line with
        condition := .breaking
        passedOver := true
        stamped := none
        breakEnd := later s.localTime (2 * s.settings.gapTicks) }
    counters := { s.counters with collisions := bump s.counters.collisions } }

/-- A frame at its sixth collision is abandoned; the abandonment of the restart reply lets the
restart take effect (R142, R156). -/
def State.abandon (f : TxFrame) (s : State) : State :=
  let t :=
    { s with
      queue := s.queue.filter (!·.onLine)
      line := { s.line with backoff := none }
      counters := { s.counters with abandoned := bump s.counters.abandoned } }
  if f.restartReply then t.takeRestart else t

/-- The frame stays, and the backoff generator is drawn (R142, R143). -/
def State.drawBackoff (s : State) : State :=
  { s with
    queue := s.queue.map TxFrame.collide
    line := { s.line with backoff := some (Config.backoffDraw s.draws) }
    draws := s.draws + 1 }

/-- COLLISION (R142). -/
def execCollision (s : State) : Answer :=
  .next
    (if s.line.condition = .sending then
      (match s.frameOnLine with
        | none => s.startBreak
        | some f => if attemptLimit ≤ f.attempts + 1 then s.startBreak.abandon f else s.startBreak.drawBackoff)
      else s)

/-- The break being driven has lasted its 2 gap units (R142). -/
def State.breakEnds (s : State) : Bool := s.line.condition == .breaking && s.localReached s.line.breakEnd

/-- BREAK_RELEASE: the line is released; BUSY until it goes quiet (R132, R142). -/
def execBreakRelease (s : State) : Answer :=
  .next (if s.breakEnds then { s with line := { s.line with condition := .busy } } else s)

/-- The end pattern of the frame on the line has gone out whole: 112 + 8 × L bit times after its start
(R131, R144). -/
def State.ownFrameEnds (s : State) : Bool :=
  s.line.condition == .sending && s.line.stamped.isSome &&
    (match s.frameOnLine with
      | none => false
      | some f => s.localReached (later s.line.sendStart ((14 + f.payload.length) * s.settings.gapTicks)))

/-- What a clean end does before a restart (R123, R144, R153, R156). -/
def State.finishFrame (s : State) : State :=
  { s with
    roster := moveToEnd s.settings.station s.roster
    queue := s.queue.filter fun g => !g.onLine && g.kind != .stamp
    finished := true
    line := { s.line with condition := .busy, passedOver := true, stamped := none } }

/-- OWN_FRAME_CLEAN_END (R144). -/
def execOwnFrameCleanEnd (s : State) : Answer :=
  .next
    (if s.ownFrameEnds then
      (if s.frameOnLine.any (·.restartReply) then s.finishFrame.takeRestart else s.finishFrame)
      else s)

end Sys2Proof.Machine
end

