-- ==== Sys2Proof/Machine/Clock.lean ====
section
/-! DEFINITION. What the station does when no command waits: the event of its own that the present
moment holds, or else one tick of local time. DESIGN CHOICE, log entries 1 and 2. -/

namespace Sys2Proof.Machine

/-- A command if its event is due. -/
def Instr.dueIf (due : Bool) (i : Instr) : List Instr := if due then [i] else []

/-- The station's own events that the present moment holds, in the order the model takes them: the end of
the configuration read, then expiries, the settle point, the entries due and the line interface's
own moments. The world may give the same commands in any other order. -/
def State.ownEvents (s : State) : List Instr :=
  Instr.dueIf s.readComplete .configReadEnd ++
  ((List.finRange 4).filter fun i => s.holdOffEnds i).map .holdOffExpiry ++
  ((List.finRange 8).filter fun c => s.pulseEnds c).map .pulseEnd ++
  ((List.finRange 8).filter fun c => s.burstHalfEnds c).map .burstHalfEnd ++
  ((List.finRange 4).filter fun p => s.deadBandEnds p).map .deadBandExpiry ++
  ((List.finRange 8).filter fun c => s.frameEnds c).map .genFrameEnd ++
  ((List.finRange 8).filter fun c => s.highEnds c).map .genHighEnd ++
  Instr.dueIf s.settleExpires (.settlePoint SettleAct.all) ++
  Instr.dueIf (s.schedule.any fun e => s.lineReached e.due) .entryDue ++
  Instr.dueIf s.quietStepDue .quietCountStep ++
  Instr.dueIf s.readyToSend .transmissionBegins ++
  Instr.dueIf s.ownStampDue .stampPointOfOwnFrame ++
  Instr.dueIf s.ownFrameEnds .ownFrameCleanEnd ++
  Instr.dueIf s.breakEnds .breakRelease

/-- The next of the station's own events at the present moment. -/
def State.ownEvent (s : State) : Option Instr := s.ownEvents.head?

/-- The loader takes the bit that CFG_DIN shows at a rising edge of CFG_CLK (R181). -/
def State.clockIn (s : State) : State :=
  if s.samplesDin then { s with imageBits := s.imageBits ++ [s.cfgDinPin] } else s

/-- One tick: local time advances by one, unless RESET_N is held low (R1), and the loader takes its bit. The
moment of a pair's change of D, and each input's sample, are over. -/
def State.tick (s : State) : State :=
  if s.resetHeld then s
  else
    State.clockIn
      { s with
        localTime := s.localTime + 1
        pairs := Vector.ofFn fun p => { s.pairs[p] with moment := none }
        inputs := Vector.ofFn fun i => { s.inputs[i] with sampled := false } }

end Sys2Proof.Machine
end

