-- ==== Sys2Proof/Machine/Dispatch.lean ====
section
/-! DEFINITION. The meaning of every command: one arm per row of the opcode table. -/

namespace Sys2Proof.Machine

/-- The effect of a command on everything but the queue of waiting commands. -/
def exec (i : Instr) (s : State) : Host.Outcome State Fault Refusal :=
  match i with
  | .powerOn => Sys2Proof.Machine.execPowerOn s
  | .resetNAsserted => Sys2Proof.Machine.execResetNAsserted s
  | .resetNReleased memory => Sys2Proof.Machine.execResetNReleased memory s
  | .configReadEnd => Sys2Proof.Machine.execConfigReadEnd s
  | .settlePoint order => Sys2Proof.Machine.execSettlePoint order s
  | .captureEdge input edge markFirst => Sys2Proof.Machine.execCaptureEdge input edge markFirst s
  | .holdOffExpiry input => Sys2Proof.Machine.execHoldOffExpiry input s
  | .entryDue => Sys2Proof.Machine.execEntryDue s
  | .pulseEnd channel => Sys2Proof.Machine.execPulseEnd channel s
  | .burstHalfEnd channel => Sys2Proof.Machine.execBurstHalfEnd channel s
  | .deadBandExpiry pair => Sys2Proof.Machine.execDeadBandExpiry pair s
  | .genHighEnd channel => Sys2Proof.Machine.execGenHighEnd channel s
  | .genFrameEnd channel => Sys2Proof.Machine.execGenFrameEnd channel s
  | .activityBegins => Sys2Proof.Machine.execActivityBegins s
  | .breakHeard => Sys2Proof.Machine.execBreakHeard s
  | .lineGoesQuiet cells more frameFirst => Sys2Proof.Machine.execLineGoesQuiet cells more frameFirst s
  | .quietCountStep => Sys2Proof.Machine.execQuietCountStep s
  | .helloReceived frame => Sys2Proof.Machine.execHelloReceived frame s
  | .stampReceived frame => Sys2Proof.Machine.execStampReceived frame s
  | .markReceived frame => Sys2Proof.Machine.execMarkReceived frame s
  | .foreignAnswer kind frame => Sys2Proof.Machine.execForeignAnswer kind frame s
  | .duplicateNumberFrame kind frame overtaken => Sys2Proof.Machine.execDuplicateNumberFrame kind frame overtaken s
  | .arm frame => Sys2Proof.Machine.execArm frame s
  | .cancelByTag frame => Sys2Proof.Machine.execCancelByTag frame s
  | .cancelByChannel frame => Sys2Proof.Machine.execCancelByChannel frame s
  | .setgen frame => Sys2Proof.Machine.execSetgen frame s
  | .reactInstall frame => Sys2Proof.Machine.execReactInstall frame s
  | .reactRemove frame => Sys2Proof.Machine.execReactRemove frame s
  | .queryStatus frame => Sys2Proof.Machine.execQueryStatus frame s
  | .querySchedule frame => Sys2Proof.Machine.execQuerySchedule frame s
  | .queryCaptures frame => Sys2Proof.Machine.execQueryCaptures frame s
  | .queryPeers frame => Sys2Proof.Machine.execQueryPeers frame s
  | .queryReactions frame => Sys2Proof.Machine.execQueryReactions frame s
  | .queryCounters frame => Sys2Proof.Machine.execQueryCounters frame s
  | .queryChannels frame => Sys2Proof.Machine.execQueryChannels frame s
  | .releaseHold frame => Sys2Proof.Machine.execReleaseHold frame s
  | .clearCounters frame => Sys2Proof.Machine.execClearCounters frame s
  | .flushSchedule frame => Sys2Proof.Machine.execFlushSchedule frame s
  | .restart frame => Sys2Proof.Machine.execRestart frame s
  | .transmissionBegins => Sys2Proof.Machine.execTransmissionBegins s
  | .collision => Sys2Proof.Machine.execCollision s
  | .breakRelease => Sys2Proof.Machine.execBreakRelease s
  | .ownFrameCleanEnd => Sys2Proof.Machine.execOwnFrameCleanEnd s
  | .stampPointOfIncomingFrame => Sys2Proof.Machine.execStampPointOfIncomingFrame s
  | .stampPointOfOwnFrame => Sys2Proof.Machine.execStampPointOfOwnFrame s
  | .inputEdgeNotOfInterest input edge => Sys2Proof.Machine.execInputEdgeNotOfInterest input edge s
  | .commandForAnotherStation kind frame => Sys2Proof.Machine.execCommandForAnotherStation kind frame s
  | .queryUnknownTopic frame => Sys2Proof.Machine.execQueryUnknownTopic frame s

end Sys2Proof.Machine
end

