-- ==== Sys2Proof/Safety.lean ====
section
/-! DEFINITION. What the manual promises of every state of a station, block by block: the laws that a
claim may name as an invariant. -/

namespace Sys2Proof

/-- The frame a command hands on, if it is one of the rows of R136. -/
def Instr.frame? : Instr → Option Frame
  | .helloReceived f | .stampReceived f | .markReceived f | .foreignAnswer _ f | .duplicateNumberFrame _ f _
  | .arm f | .cancelByTag f | .cancelByChannel f | .setgen f | .reactInstall f | .reactRemove f
  | .queryStatus f | .querySchedule f | .queryCaptures f | .queryPeers f | .queryReactions f
  | .queryCounters f | .queryChannels f | .releaseHold f | .clearCounters f | .flushSchedule f | .restart f
  | .commandForAnotherStation _ f | .queryUnknownTopic f => some f
  | .powerOn | .resetNAsserted | .resetNReleased _ | .configReadEnd | .settlePoint _ | .captureEdge _ _ _
  | .holdOffExpiry _ | .entryDue | .pulseEnd _ | .burstHalfEnd _ | .deadBandExpiry _ | .genHighEnd _
  | .genFrameEnd _ | .activityBegins | .breakHeard | .lineGoesQuiet _ _ _ | .quietCountStep
  | .transmissionBegins | .collision | .breakRelease | .ownFrameCleanEnd | .stampPointOfIncomingFrame
  | .stampPointOfOwnFrame | .inputEdgeNotOfInterest _ _ => none

end Sys2Proof

namespace Sys2Proof.Machine

/-- The row a clean frame is handed on by (R136): by its sender, its kind and, for a command, its
destination and the code in its payload's first byte. -/
def rowOf (own : Nat) (kind : FrameKind) (f : Frame) : Instr :=
  let code := natAt f.payload 0
  let toUs := f.destination == own || f.destination == 31
  if f.sender = own then .duplicateNumberFrame kind f none
  else
    match kind with
    | .hello => .helloReceived f
    | .stamp => .stampReceived f
    | .mark => .markReceived f
    | .report | .reply | .notice => .foreignAnswer kind f
    | .arm => if toUs then .arm f else .commandForAnotherStation .arm f
    | .setgen => if toUs then .setgen f else .commandForAnotherStation .setgen f
    | .cancel =>
      if !toUs then .commandForAnotherStation .cancel f
      else if code = 1 then .cancelByChannel f
      else .cancelByTag f
    | .react =>
      if !toUs then .commandForAnotherStation .react f
      else if code = 1 then .reactRemove f
      else .reactInstall f
    | .query =>
      if !toUs then .commandForAnotherStation .query f
      else
        match code with
        | 0 => .queryStatus f
        | 1 => .querySchedule f
        | 2 => .queryCaptures f
        | 3 => .queryPeers f
        | 4 => .queryReactions f
        | 5 => .queryCounters f
        | 6 => .queryChannels f
        | _ => .queryUnknownTopic f
    | .control =>
      if !toUs then .commandForAnotherStation .control f
      else
        match code with
        | 1 => .clearCounters f
        | 2 => .flushSchedule f
        | 3 => .restart f
        | _ => .releaseHold f

/-- The clean frame a command hands on: the one of a delivery row, or the one that a received stretch is
judged to be when the line goes quiet (R136). -/
def State.handsOn (s : State) (i : Instr) : Option Frame :=
  match i with
  | .lineGoesQuiet cells more _ =>
    if s.line.receiving then
      match judge s.line.breakNoted cells more with
      | .clean _ f => some f
      | .broken | .crcError | .malformed => none
    else none
  | i => i.frame?

/-- A repeat is in range (R25): an interval of 10..50,000,000 ticks, and a firing left. -/
abbrev Repetition.inBounds (r : Repetition) : Prop := 10 ≤ r.interval ∧ r.interval ≤ horizon ∧ r.remaining ≠ some 0

/-- The schedule's law (R26, R27): at most 64 entries, no two of one origin and tag, in schedule order,
every entry reached just now or ahead by at most the reach limit, and every repeat in range. -/
abbrev State.ScheduleLaw (s : State) : Prop :=
  s.schedule.length ≤ scheduleLimit ∧
  (s.schedule.Pairwise fun a b => ¬(a.origin = b.origin ∧ a.tag = b.tag)) ∧
  (s.schedule.Pairwise fun a b => a.place s.lineTime ≤ b.place s.lineTime) ∧
  (∀ e ∈ s.schedule, 0 ≤ e.place s.lineTime ∧ e.place s.lineTime ≤ (reachLimit : Int)) ∧
  (∀ e ∈ s.schedule, ∀ r ∈ e.repetition, r.inBounds)

/-- The templates' law (R97, R99): every installed reaction's delay and repeat are in range. -/
abbrev State.TemplateLaw (s : State) : Prop :=
  ∀ i : Fin 24, ∀ r ∈ s.slots[i], r.delay ≤ horizon ∧ ∀ n ∈ r.repetition, n.inBounds

/-- The transmit queue's law (R148, R149, R152): between steps no emptying is under way; at most 16 frames, in order of class and within a
class of age, at most one of them a STAMP, and one of them on the line exactly while the line
interface is SENDING. -/
abbrev State.QueueLaw (s : State) : Prop :=
  s.queueShutFrom = none ∧
  s.queue.length ≤ queueLimit ∧
  (s.queue.Pairwise fun a b => a.kind.cls < b.kind.cls ∨ (a.kind.cls = b.kind.cls ∧ a.age < b.age)) ∧
  s.queue.countP (·.kind == .stamp) ≤ 1 ∧
  s.queue.countP (·.onLine) = (if s.line.condition = .sending then 1 else 0) ∧
  (∀ f ∈ s.queue, f.age < s.nextAge ∧ f.attempts < attemptLimit)

/-- The law of frames outside ACTIVE: nothing is queued for sending (R150, R158). -/
abbrev State.QuietStationLaw (s : State) : Prop :=
  (s.station ≠ .active → s.queue = [] ∧ s.line.condition ≠ .sending ∧ s.line.target = none ∧
    s.line.backoff = none ∧ s.restartPending = false) ∧
  (s.station ≠ .active → s.station ≠ .listening → s.schedule = [])

/-- The capture log's law (R89): at most 32 records, whose mark numbers run without gaps to the
station mark number minus 1. -/
abbrev State.LogLaw (s : State) : Prop :=
  s.captureLog.length ≤ logLimit ∧
  s.captureLog.map (·.number) =
    (List.range s.captureLog.length).map fun k => s.markNumber - BitVec.ofNat 16 (s.captureLog.length - k)

/-- The tag law (R98): no two installed reactions hold the same tag. -/
abbrev State.TagLaw (s : State) : Prop :=
  ∀ i j : Fin 24, i ≠ j → ∀ a ∈ s.slots[i], ∀ b ∈ s.slots[j], a.tag ≠ b.tag

/-- The roster's law (R115, R116, R117, R121): the peers are stations 1..30 other than this one, each
once; the roster holds each station once, and its members are the peers together with the station
itself when, and only when, it is ACTIVE; before configuration both are empty. -/
abbrev State.RosterLaw (s : State) : Prop :=
  (s.peers.map (·.station)).Nodup ∧
  (∀ p ∈ s.peers, 1 ≤ p.station ∧ p.station ≤ 30 ∧ p.station ≠ s.settings.station ∧ p.age = p.silence) ∧
  s.roster.Nodup ∧
  (∀ n ∈ s.roster, n ∈ s.peers.map (·.station) ∨ (n = s.settings.station ∧ s.station = .active)) ∧
  (∀ p ∈ s.peers, p.station ∈ s.roster) ∧
  (s.station = .active → s.settings.station ∈ s.roster) ∧
  (s.station.receives = false → s.peers = [] ∧ s.roster = [])

/-- The hold law (R73, R74, R75): no pulse or burst runs on a held channel, and an enabled pair is held
or unheld as one. -/
abbrev State.HoldLaw (s : State) : Prop :=
  (∀ c : Fin 8, s.channels[c].hold.isSome = true → s.channels[c].pulse = none ∧ s.channels[c].burst = none) ∧
  (∀ p : Fin 4, s.settings.pairs[p].enabled = true → s.channels[evenOf p].hold = s.channels[oddOf p].hold)

/-- The pair law (R72): a pair controller never drives both its channels to 1, and the safe values of
an enabled pair are not both 1 (R183). -/
abbrev State.PairLaw (s : State) : Prop :=
  ∀ p : Fin 4,
    ¬(s.pairs[p].drive.even = true ∧ s.pairs[p].drive.odd = true) ∧
    ¬(s.pairs[p].before.even = true ∧ s.pairs[p].before.odd = true) ∧
    (s.settings.pairs[p].enabled = true →
      ¬(s.settings.channels[evenOf p].safe = true ∧ s.settings.channels[oddOf p].safe = true))

/-- The law of following pairs (R71, R75): the pair controller of an enabled pair that is not held has
taken the present D. -/
abbrev State.FollowLaw (s : State) : Prop :=
  ∀ p : Fin 4, s.settings.pairs[p].enabled = true → s.isHeld (evenOf p) = false → s.pairs[p].drive.d = s.pairD p

/-- The law of the inputs (R84, R93): while the inputs are sampled, the levels held are those on the
pins. -/
abbrev State.InputLaw (s : State) : Prop :=
  s.station.samples = true → ∀ i : Fin 4, s.inputs[i].level = s.inputPins[i]

/-- The law of the configuration loader (R181): during the read the station is CONFIGURING with RESET_N
high, not past the read's last tick, and the loader holds the bits of the memory's 96 bytes whose rising
edge of CFG_CLK has come; with no read in progress it holds none. The tick of each edge rests on the phase of
CFG_CLK (log entry 8, DEDUCED), the memory on the model's choice of an operand (log entry 7). -/
abbrev State.LoaderLaw (s : State) : Prop :=
  (s.reading = true → s.station = .configuring ∧ s.resetHeld = false ∧ s.cfgMemory.length = 96 ∧
    s.localTime.toNat ≤ 3168 ∧
    s.imageBits = (bytesBits s.cfgMemory).take ((s.localTime.toNat + 2) / 4 - 24)) ∧
  (s.reading = false → s.imageBits = [])

/-- The sync law (R14 to R17, R24): the lock count is 0..3 and 3 in lock, the drift count is 0..2, and
above 0 in ADRIFT alone. -/
abbrev State.SyncLaw (s : State) : Prop :=
  s.lockCount ≤ 3 ∧ s.driftCount ≤ 2 ∧
  (s.inLock = true → s.lockCount = 3) ∧
  (s.sync = .alone → s.lockCount = 0) ∧
  (s.sync = .acquiring → s.lockCount ≤ 2) ∧
  (s.driftCount ≠ 0 → s.sync = .adrift)

/-- The generator law (R54, R198): while a generator runs, its high end and frame end are its frame
start plus the active high time and plus the active period. -/
abbrev State.GeneratorLaw (s : State) : Prop :=
  ∀ c : Fin 8, s.channels[c].generates = true →
    s.channels[c].highEnd = later s.channels[c].frameStart s.channels[c].activeSet.high.toNat ∧
    s.channels[c].frameEnd = later s.channels[c].frameStart s.channels[c].activeSet.period.toNat

/-- The law of the states before configuration (R23, R147, R179): the settle timer is stopped and the
line interface OFF exactly in CONFIGURING and CONFIG_FAULT, and RESET_N is held low only in
CONFIGURING. -/
abbrev State.ConfigurationLaw (s : State) : Prop :=
  (s.station.receives = true ↔ s.settleNext.isSome = true) ∧
  (s.station.receives = false ↔ s.line.condition = .off) ∧
  (s.resetHeld = true → s.station = .configuring ∧ s.localTime = 0) ∧
  (s.station.receives = false → s.sync = .alone ∧ s.correction = 0)

/-- The law of the configured values (R52, R83, R200): outside CONFIGURING and CONFIG_FAULT they are in
the ranges the configuration check admits. -/
abbrev Settings.Legal (g : Settings) : Prop :=
  (1 ≤ g.station ∧ g.station ≤ 30) ∧ g.rateCode ≤ 3 ∧ (1 ≤ g.settleMultiple ∧ g.settleMultiple ≤ 100) ∧
  (1 ≤ g.listenTime ∧ g.listenTime ≤ 255) ∧ (1 ≤ g.lockWindow ∧ g.lockWindow ≤ 255) ∧
  (1 ≤ g.stepLimit ∧ g.stepLimit ≤ 1000) ∧ (2 ≤ g.silenceLimit ∧ g.silenceLimit ≤ 250) ∧ g.lineDelay ≤ 255 ∧
  (2 ≤ g.carrierHalf ∧ g.carrierHalf ≤ 4095) ∧
  (∀ c : Fin 8, 2 ≤ g.channels[c].defaultPeriod.toNat ∧
    g.channels[c].defaultHigh.toNat ≤ g.channels[c].defaultPeriod.toNat) ∧
  (∀ p : Fin 4, g.pairs[p].deadBand ≤ 255 ∧
    (g.pairs[p].enabled = true → g.channels[evenOf p].mode ≠ .carrier ∧
      ¬(g.channels[evenOf p].safe = true ∧ g.channels[oddOf p].safe = true))) ∧
  (∀ i : Fin 4, g.inputs[i].holdOff ≤ 65535)

/-- The values in force are legal. -/
abbrev State.SettingsLaw (s : State) : Prop := s.station.receives = true → s.settings.Legal

/-! ### What a claim says is unchanged -/

/-- Station control, the configuration loader, the configured values and the waiting commands are as they
were. -/
abbrev State.KeepsControl (s t : State) : Prop :=
  t.station = s.station ∧ t.listenCount = s.listenCount ∧ t.restartPending = s.restartPending ∧
  t.resetHeld = s.resetHeld ∧ t.reading = s.reading ∧ t.imageBits = s.imageBits ∧ t.cfgMemory = s.cfgMemory ∧
  t.settings = s.settings ∧ t.pending = s.pending

/-- The line time unit is as it was. -/
abbrev State.KeepsTime (s t : State) : Prop :=
  t.localTime = s.localTime ∧ t.correction = s.correction ∧ t.sync = s.sync ∧ t.lockCount = s.lockCount ∧
  t.driftCount = s.driftCount ∧ t.lastDelta = s.lastDelta ∧ t.settleNext = s.settleNext

/-- The capture unit is as it was. -/
abbrev State.KeepsCaptures (s t : State) : Prop :=
  t.inputs = s.inputs ∧ t.inputPins = s.inputPins ∧ t.captureLog = s.captureLog ∧ t.markNumber = s.markNumber

/-- The channels and the pairs are as they were. -/
abbrev State.KeepsOutputs (s t : State) : Prop := t.channels = s.channels ∧ t.pairs = s.pairs

/-- The peer table and the roster are as they were. -/
abbrev State.KeepsPeers (s t : State) : Prop := t.peers = s.peers ∧ t.roster = s.roster

/-- The transmit queue is as it was. -/
abbrev State.KeepsQueue (s t : State) : Prop :=
  t.queue = s.queue ∧ t.finished = s.finished ∧ t.nextAge = s.nextAge

/-! ### Words of the manual that claims use -/

/-- The manual's loop for a repeat (R41), one skip at a time: what is left of an entry whose next due
is `due` with `left` firings remaining (`none` for endless), and how many repeats were skipped. `fuel`
bounds the loop. -/
def skipRepeats (now : Time) (interval : Nat) : Nat → Time → Option Nat → Option (Time × Option Nat) × Nat
  | 0, due, left => (some (due, left), 0)
  | fuel + 1, due, left =>
    if left = some 0 then (none, 0)
    else if isReached now due then
      let rest := skipRepeats now interval fuel (later due interval) (left.map (· - 1))
      (rest.1, rest.2 + 1)
    else (some (due, left), 0)

/-- The manual's loop for a generator's frames at a forward step (R68), one skip at a time: while the
frame's end is reached, the frame is counted and skipped and the next one starts a period later.
`fuel` bounds the loop. -/
def skipFrames (now : Time) : Nat → Channel → Channel
  | 0, ch => ch
  | fuel + 1, ch =>
    if isReached now ch.frameEnd then
      skipFrames now fuel
        { ch.startFrame ch.frameEnd with frameCount := ch.frameCount + 1, skipped := bump ch.skipped }
    else { ch with phaseHigh := !isReached now ch.highEnd }

/-- This station takes the command: ACTIVE, from another station, addressed to this one or to all, and
no repeat (R159, R162). -/
abbrev State.Takes (kind : CommandKind) (f : Frame) (s : State) : Prop :=
  s.station = .active ∧ f.sender ≠ s.settings.station ∧ s.addressed f = true ∧ s.repeatOf kind f = none

/-- The record's kind, and the payload check and dispatch, of a command frame that is no QUERY (R161 to R175). -/
def commandBody (kind : FrameKind) (f : Frame) : Option (CommandKind × (State → State × ResultCode × Word16)) :=
  let code := natAt f.payload 0
  match kind with
  | .arm => some (.arm, armBody f)
  | .cancel => some (.cancel, if code = 1 then cancelByChannelBody f else cancelByTagBody f)
  | .setgen => some (.setgen, setgenBody f)
  | .react => some (.react, if code = 1 then removeBody f else installBody f)
  | .control =>
    some (.control,
      match code with
      | 1 => clearCountersBody f
      | 2 => flushBody f
      | 3 => restartBody f
      | _ => releaseHoldBody f)
  | .query | .hello | .stamp | .mark | .report | .reply | .notice => none

/-- The row of an overtaken step. -/
def overtakenRow (own : Nat) : OvertakenStep → Instr
  | .entryDue => .entryDue
  | .settlePoint order => .settlePoint order
  | .captureEdge i e markFirst => .captureEdge i e markFirst
  | .delivered kind f => rowOf own kind f

/-- What the match of one slot leaves (R103, R110): what its tests and its arm leave, the slot with its hit count
advanced and the outcome as its last, and the outcome's counter advanced. -/
def State.matchTaken (m : Mark) (r : Reaction) (i : Fin 24) (s : State) : State :=
  { (s.runMatch m r i).1 with
    slots := s.slots.set i (some { r with hits := bump r.hits, lastOutcome := (s.runMatch m r i).2 })
    counters := (s.runMatch m r i).1.counters.countOutcome (s.runMatch m r i).2 }

/-- The end of a command's execution: its record is written and it is answered (R161, steps 4 and
5). -/
def State.conclude (kind : CommandKind) (f : Frame) (code : ResultCode) (detail : Word16) (s : State) : State :=
  State.answer kind f code detail (s.writeRecord f.sender ⟨kind, f.sequence, code, detail⟩)

end Sys2Proof.Machine
end

