-- ==== Sys2Proof/Certificates/Slice0/Obligations.lean ====
section
/-! DEFINITION. The statements for the provers, chapter by chapter. A statement that gives a command's
next state as one record says with it that every field not named is unchanged. -/

open Sys2Proof Sys2Proof.Machine

/-! ### The step, and the machine as a whole -/

/-- The command at the front of the queue is taken, with the queue's rest. -/
def Obligations.StepTakesFrontCommand : Prop :=
  ∀ (c : Instr) (rest : List Instr) (s : State),
    s.pending = c :: rest → step s = exec c { s with pending := rest }

/-- On an empty queue the station takes its next own event, or else one tick passes: local time and line
time advance by one, unless RESET_N is held low, and nothing else moves but the note of the moment in each
pair and each input, and the bit that the loader takes at a rising edge of CFG_CLK. The model's choice: log
entries 1 and 2. -/
def Obligations.StepOnEmptyQueue : Prop :=
  ∀ s : State, s.pending = [] →
    (∀ c, s.ownEvent = some c → step s = exec c s) ∧
    (s.ownEvent = none → s.resetHeld = true → step s = .next s) ∧
    (s.ownEvent = none → s.resetHeld = false → ∃ t, step s = .next t ∧
      t.localTime.toNat = (s.localTime.toNat + 1) % 4294967296 ∧ t.lineTime = s.lineTime + 1 ∧
      t = { s with localTime := t.localTime, pairs := t.pairs, inputs := t.inputs, imageBits := t.imageBits } ∧
      (∀ p : Fin 4, t.pairs[p] = { s.pairs[p] with moment := none }) ∧
      (∀ i : Fin 4, t.inputs[i] = { s.inputs[i] with sampled := false }) ∧
      t.imageBits = s.imageBits ++ (if t.samplesDin then [t.cfgDinPin] else []))

/-- Every well-formed command completes in every state. A term that names no command of the block is refused
`illFormed`: which terms those are, and that they are refused, is the model's choice (log entry 18). -/
def Obligations.WellFormedCommandsComplete : Prop :=
  ∀ (i : Instr) (s : State),
    (i.wellFormed = true → ∃ t, exec i s = .next t) ∧
    (i.wellFormed = false → exec i s = .refused .illFormed)

/-- The state right after reset meets every law. -/
def Obligations.ResetMeetsEveryLaw : Prop :=
  State.reset.ScheduleLaw ∧ State.reset.TemplateLaw ∧ State.reset.QueueLaw ∧ State.reset.QuietStationLaw ∧
  State.reset.LogLaw ∧ State.reset.TagLaw ∧ State.reset.RosterLaw ∧ State.reset.HoldLaw ∧
  State.reset.PairLaw ∧ State.reset.FollowLaw ∧ State.reset.SyncLaw ∧ State.reset.GeneratorLaw ∧
  State.reset.InputLaw ∧ State.reset.LoaderLaw ∧ State.reset.ConfigurationLaw ∧ State.reset.SettingsLaw

/-! ### Chapter 1: line time -/

/-- Forward distance, ahead and reached, signed difference and "later than" (R3); the horizon and the
reach limit are tested on the forward distance. -/
def Obligations.MomentsCompareByForwardDistance : Prop :=
  ∀ (s : State) (a b : Time),
    forward a b = (b.toNat + (4294967296 - a.toNat)) % 4294967296 ∧
    s.aheadBy b = forward s.lineTime b ∧
    (s.lineReached b = true ↔ s.aheadBy b = 0 ∨ 2147483648 ≤ s.aheadBy b) ∧
    (s.lineReached b = false ↔ 1 ≤ s.aheadBy b ∧ s.aheadBy b ≤ 2147483647) ∧
    signedDiff a b = (if 2147483648 ≤ forward a b then (forward a b : Int) - 4294967296 else (forward a b : Int)) ∧
    (∀ d : Int, -2147483648 ≤ d → d ≤ 2147483647 → (signedDiff a b = d ↔ b = a + BitVec.ofInt 32 d)) ∧
    (∀ (origin : Nat) (r : ArmRequest), (s.arm origin r).2 = .ok ∨ (s.arm origin r).2 = .replaced →
      s.lineReached r.due = false → s.aheadBy r.due ≤ 50000000) ∧
    (∀ e : Entry, s.beyondReach e = false ↔ 1 ≤ s.aheadBy e.due ∧ s.aheadBy e.due ≤ 100000000)

/-- A command changes nothing in the queue of waiting commands. Local time is never loaded, adjusted or
stepped but by power-on and RESET_N, and the correction changes at settle points alone besides, one that a
DUPLICATE_NUMBER_FRAME carries as its overtaken step among them (R1, R2, log entry 31). -/
def Obligations.OnlySettlePointsMoveLineTime : Prop :=
  ∀ (i : Instr) (s t : State), exec i s = .next t →
    t.pending = s.pending ∧
    (i ≠ .powerOn → i ≠ .resetNAsserted →
      t.localTime = s.localTime ∧
      ((∀ order, i ≠ .settlePoint order) →
        (∀ k f order n, i ≠ .duplicateNumberFrame k f (some ⟨.settlePoint order, n⟩)) →
        t.correction = s.correction))

/-- A settle point completes: correction, sync state, counts and last delta change together, the timer
begins its next interval, and the control flags, the configured values, the capture unit and the
reaction table are untouched (R7, R8). What its step does:
- the schedule after a backward step keeps, in its order, the entries still ahead by at most the reach
  limit, and the others are dropped and counted, each with a NOTICE DROPPED to its notify station: placed in
  ACTIVE where the queue has room for these NOTICEs, and counted as lost in LISTENING and SILENCED; after a forward
  step the reached entries fire, as an ENTRY_DUE at the new line time fires them, and those still ahead stay (R38,
  R43, R150);
- a large step, by more than 50,000,000 ticks, advances the large-steps counter (R19, R22);
- where no channel enters hold and no entry fires, a large step restarts every generator at the new line
  time and counts it, a pending set staying pending; a backward one that is not large leaves every frame
  boundary where it is; and a forward one that is not large moves each generator on to the new line time, the
  frames skipped counted (R68 to R70); that a STOPPING generator whose high end and frame end it passes stops in
  its LOW phase is the model's reading (log entry 28, DEDUCED). -/
def Obligations.SettlePointCompletes : Prop :=
  ∀ (order : List SettleAct) (s : State) (u : Time) (change : Int),
    (Instr.settlePoint order).wellFormed = true → s.station.receives = true →
    s.settleNext = some u → s.localReached u = true →
    change = correctionChange s.sync s.settings.stepLimit s.valueList.length (deltaOf s.valueList) →
    ∃ t, exec (.settlePoint order) s = .next t ∧
      t.correction = s.correction + BitVec.ofInt 32 change ∧
      (⟨t.sync, t.lockCount, t.driftCount⟩ : SyncStatus) = s.settleStatus ∧
      t.lastDelta = BitVec.ofInt 32 (deltaOf s.valueList) ∧
      t.settleNext = some (later u (100000 * s.settings.settleMultiple)) ∧
      t.localTime = s.localTime ∧ t.settings = s.settings ∧ t.restartPending = s.restartPending ∧
      t.resetHeld = s.resetHeld ∧ t.reading = s.reading ∧ t.imageBits = s.imageBits ∧
      t.cfgMemory = s.cfgMemory ∧ s.KeepsCaptures t ∧ t.slots = s.slots ∧
      t.draws = s.draws ∧ t.pending = s.pending ∧
      (change = 0 → t.schedule = s.schedule) ∧
      (change < 0 →
        t.schedule = (s.schedule.filter fun e => decide (1 ≤ t.aheadBy e.due ∧ t.aheadBy e.due ≤ 100000000)) ∧
        t.counters.dropped =
          bumpBy (s.schedule.countP fun e => !decide (1 ≤ t.aheadBy e.due ∧ t.aheadBy e.due ≤ 100000000))
            s.counters.dropped ∧
        t.counters.fired = s.counters.fired ∧ t.counters.repeatsSkipped = s.counters.repeatsSkipped) ∧
      (∀ told : Nat, change < 0 →
        told =
          (s.schedule.countP fun e =>
            e.notify.isSome && !decide (1 ≤ t.aheadBy e.due ∧ t.aheadBy e.due ≤ 100000000)) →
        (s.station = .active → s.queueShutFrom = none → s.queue.length + told ≤ 16 →
          t.queue.countP (·.kind == .notice) = s.queue.countP (·.kind == .notice) + told ∧
          t.counters.lostNotices = s.counters.lostNotices ∧
          ∀ e ∈ s.schedule, ∀ n, e.notify = some n → ¬(1 ≤ t.aheadBy e.due ∧ t.aheadBy e.due ≤ 100000000) →
            ∃ g ∈ t.queue, g.kind = .notice ∧ g.destination = n ∧ g.sequence = 0 ∧
              g.payload = noticePayload e .dropped t.lineTime) ∧
        (s.station = .silenced ∨ s.station = .listening ∧ s.listenCount + 1 < s.settings.listenTime →
          t.counters.lostNotices = bumpBy told s.counters.lostNotices)) ∧
      t.counters.largeSteps =
        (if 50000000 < change ∨ change < -50000000 then bump s.counters.largeSteps else s.counters.largeSteps) ∧
      (0 < change → s.ScheduleLaw →
        (∀ e ∈ s.schedule, t.lineReached e.due = false → e ∈ t.schedule) ∧
        (s.settleNews.lossOfLock = false ∨ s.station = .silenced →
          ∀ v, exec .entryDue s.settleUnit = .next v →
            t.schedule = v.schedule ∧ t.counters.fired = v.counters.fired ∧
            t.counters.dropped = v.counters.dropped ∧ t.counters.repeatsSkipped = v.counters.repeatsSkipped)) ∧
      (s.settleNews.lossOfLock = false ∨ s.station = .silenced →
        change ≤ 0 ∨ (∀ e ∈ s.schedule, t.lineReached e.due = false) →
        (50000000 < change ∨ change < -50000000 →
          t.counters.generatorRestarts =
            bumpBy ((List.finRange 8).countP fun c => s.channels[c].gen != .stopped) s.counters.generatorRestarts ∧
          ∀ c : Fin 8, t.channels[c] =
            if s.channels[c].gen = .stopped then s.channels[c]
            else
              { s.channels[c] with
                frameStart := t.lineTime
                highEnd := t.lineTime + BitVec.ofNat 32 s.channels[c].activeSet.high.toNat
                frameEnd := t.lineTime + BitVec.ofNat 32 s.channels[c].activeSet.period.toNat
                phaseHigh := decide (0 < s.channels[c].activeSet.high.toNat) }) ∧
        (-50000000 ≤ change → change ≤ 0 → t.channels = s.channels) ∧
        (-50000000 ≤ change → change ≤ 50000000 →
          t.counters.generatorRestarts = s.counters.generatorRestarts) ∧
        (0 < change → change ≤ 50000000 →
          t.counters.framesSkipped =
            bumpBy
              ((List.finRange 8).map fun c =>
                if s.channels[c].gen = .running ∧ t.lineReached s.channels[c].frameEnd = true then
                  s.channels[c].completeFrame.framesPassed t.lineTime
                else 0).sum
              s.counters.framesSkipped ∧
          ∀ c : Fin 8, t.channels[c] =
            if s.channels[c].gen = .stopped then s.channels[c]
            else if t.lineReached s.channels[c].frameEnd = false then
              { s.channels[c] with
                phaseHigh := s.channels[c].phaseHigh && !t.lineReached s.channels[c].highEnd }
            else if s.channels[c].gen = .running then s.channels[c].completeFrame.skipPassed t.lineTime
            else s.channels[c].completeFrame))

/-- The correction change of a settle point (R12): nothing for a value list of 1, the whole delta in
ALONE and ACQUIRING, and delta clamped to the step limit in LOCKED and ADRIFT, which the
clamped-corrections counter counts. -/
def Obligations.CorrectionFollowsR12 : Prop :=
  ∀ (order : List SettleAct) (s t : State),
    exec (.settlePoint order) s = .next t → s.settleExpires = true →
    (s.valueList.length ≤ 1 → t.correction = s.correction) ∧
    (2 ≤ s.valueList.length → s.sync = .alone ∨ s.sync = .acquiring →
      t.correction = s.correction + BitVec.ofInt 32 s.settleDelta) ∧
    (2 ≤ s.valueList.length → s.sync = .locked ∨ s.sync = .adrift →
      ∃ d : Int,
        t.correction = s.correction + BitVec.ofInt 32 d ∧
        -(s.settings.stepLimit : Int) ≤ d ∧ d ≤ s.settings.stepLimit ∧
        ((s.settings.stepLimit : Int) < s.settleDelta → d = s.settings.stepLimit) ∧
        (s.settleDelta < -(s.settings.stepLimit : Int) → d = -(s.settings.stepLimit : Int)) ∧
        (s.settleDelta.natAbs ≤ s.settings.stepLimit → d = s.settleDelta)) ∧
    t.lineTime - s.lineTime = t.correction - s.correction ∧
    (2 ≤ s.valueList.length → s.sync = .locked → s.settleDelta.natAbs ≤ s.settings.lockWindow → t.sync = .locked) ∧
    t.counters.clampedCorrections =
      if 2 ≤ s.valueList.length ∧ (s.sync = .locked ∨ s.sync = .adrift) ∧
          s.settings.stepLimit < s.settleDelta.natAbs
      then bump s.counters.clampedCorrections
      else s.counters.clampedCorrections

/-- The sync state follows the table of R14 to R17, and each loss of lock is counted (R18). -/
def Obligations.SyncStateFollowsTable : Prop :=
  ∀ (order : List SettleAct) (s t : State),
    exec (.settlePoint order) s = .next t → s.settleExpires = true → s.SyncLaw →
    (s.valueList.length = 1 →
      t.sync = .alone ∧ t.lockCount = 0 ∧ (s.sync ≠ .acquiring → t.driftCount = 0)) ∧
    (2 ≤ s.valueList.length → s.settleDelta.natAbs ≤ s.settings.lockWindow →
      (s.sync = .alone → t.sync = .acquiring ∧ t.lockCount = 1 ∧ t.driftCount = 0) ∧
      (s.sync = .acquiring ∧ s.lockCount < 2 → t.sync = .acquiring ∧ t.lockCount = s.lockCount + 1) ∧
      (s.sync = .acquiring ∧ s.lockCount = 2 → t.sync = .locked ∧ t.lockCount = 3 ∧ t.driftCount = 0) ∧
      (s.sync = .locked → t.sync = .locked ∧ t.lockCount = s.lockCount ∧ t.driftCount = s.driftCount) ∧
      (s.sync = .adrift → t.sync = .locked ∧ t.lockCount = s.lockCount ∧ t.driftCount = 0)) ∧
    (2 ≤ s.valueList.length → s.settings.lockWindow < s.settleDelta.natAbs →
      (s.sync = .alone → t.sync = .acquiring ∧ t.lockCount = 0 ∧ t.driftCount = 0) ∧
      (s.sync = .acquiring → t.sync = .acquiring ∧ t.lockCount = 0) ∧
      (s.sync = .locked → t.sync = .adrift ∧ t.lockCount = 3 ∧ t.driftCount = 1) ∧
      (s.sync = .adrift ∧ s.driftCount < 2 →
        t.sync = .adrift ∧ t.lockCount = 3 ∧ t.driftCount = s.driftCount + 1) ∧
      (s.sync = .adrift ∧ s.driftCount = 2 → t.sync = .acquiring ∧ t.lockCount = 0 ∧ t.driftCount = 0)) ∧
    t.counters.lossesOfLock =
      if (s.sync = .locked ∨ s.sync = .adrift) ∧ (t.sync = .alone ∨ t.sync = .acquiring)
      then bump s.counters.lossesOfLock
      else s.counters.lossesOfLock

/-- No one station can pull the crowd: if all values but one of a list of at least 4 lie in a range,
delta lies in it (chapter 1's introduction, R10). -/
def Obligations.OneStationCannotPull : Prop :=
  ∀ (values : List Int) (v a b : Int), 4 ≤ values.length → v ∈ values →
    (∀ x ∈ values.erase v, a ≤ x ∧ x ≤ b) → a ≤ deltaOf values ∧ deltaOf values ≤ b

/-- A loss of lock holds every hold-on-loss channel with cause LOSS, and drives SYNC low (R18, R73). -/
def Obligations.LossOfLockHolds : Prop :=
  ∀ (order : List SettleAct) (s t : State) (c : Fin 8),
    exec (.settlePoint order) s = .next t → (Instr.settlePoint order).wellFormed = true →
    s.settleExpires = true → s.station ≠ .silenced → s.inLock = true → t.inLock = false →
    t.syncPin = false ∧
    (s.holdsOnLoss c = true →
      t.channels[c].hold = some .loss ∧ t.channels[c].pulse = none ∧ t.channels[c].burst = none)

/-- Every step keeps the sync law. -/
def Obligations.StepsKeepSyncLaw : Prop :=
  ∀ s t : State, s.SyncLaw → step s = .next t → t.SyncLaw

/-! ### Chapter 2: the schedule -/

/-- An entry's next due, found in closed form, is what the loop of R41 finds, with as many repeats
skipped. -/
def Obligations.RepeatSkipsAsTheLoop : Prop :=
  ∀ (now : Time) (e : Entry) (r : Repetition) (fuel : Nat),
    e.repetition = some r → r.inBounds → isReached now e.due = true → ticksSince now e.due / r.interval + 1 < fuel →
    e.afterFiring now =
      ((skipRepeats now r.interval fuel (later e.due r.interval) (r.remaining.map (· - 1))).1.map
          fun v => { e with due := v.1, repetition := some ⟨r.interval, v.2⟩ },
        (skipRepeats now r.interval fuel (later e.due r.interval) (r.remaining.map (· - 1))).2)

/-- The checks of an ARM, in their order, decide its result, and a refused ARM leaves the schedule as
it was (R29 to R35). An ARM that is taken and refused by the schedule changes the command record and the
arms-refused counter, which advances, and is answered with the refusing code and the occupancy, unless it was
sent to all (R35, R50, R160, R165). -/
def Obligations.ArmChecksInOrder : Prop :=
  ∀ (origin : Nat) (r : ArmRequest) (s : State),
    (8 ≤ r.channel → s.arm origin r = (s, .badChannel)) ∧
    (∀ c : Fin 8, r.channel = c.val →
      (s.arm origin r).2 =
        (if s.isPairOdd c then .paired
        else if !actionValid s.settings.channels[c].mode r.action then .badAction
        else if !(paramValid r.action r.param && repeatValid r.repetition) then .badParam
        else if r.lock && !s.inLock then .unsynced
        else if s.lineReached r.due && !r.lateOk then .late
        else if !s.lineReached r.due && decide (50000000 < s.aheadBy r.due) then .tooFar
        else if s.schedule.any (fun e => e.origin == origin && e.tag == r.tag) then .replaced
        else if 64 ≤ s.schedule.length then .full
        else .ok)) ∧
    ((s.arm origin r).2 ≠ .ok → (s.arm origin r).2 ≠ .replaced → (s.arm origin r).1 = s) ∧
    ∀ (f : Frame) (code : ResultCode),
      f.wellFormed .arm = true → s.Takes .arm f → parseArm f.payload = some r → f.sender = origin →
      (s.arm origin r).2 = code → code ≠ .ok → code ≠ .replaced →
      exec (.arm f) s =
        .next
          (State.conclude .arm f code (BitVec.ofNat 16 s.schedule.length)
            { s.receive f with
              counters := { s.counters with armsRefused := bump s.counters.armsRefused } }).followPairs

/-- An ARM that is taken and passes its checks arms its entry, is recorded, and is answered OK or REPLACED
with the occupancy. An entry of the same origin and tag is removed first, with outcome REPLACED (R34, R165).
The place of an entry in a schedule in order is behind every entry of an earlier or the same due, and ahead of
every other (R27). A due ahead puts the entry at its place (R27, R35); a reached one, late ok, is replaced by the present line
time and the entry fires at once (R33, R37), after the entries held that this moment has reached and not yet
fired, which is the model's reading (log entry 26). -/
def Obligations.ArmInsertsEntry : Prop :=
  (∀ (now : Time) (e : Entry) (held : List Entry),
    (held.Pairwise fun a b => signedDiff now a.due ≤ signedDiff now b.due) →
    ∃ a b, held = a ++ b ∧ insertEntry now e held = a ++ e :: b ∧
      (∀ x ∈ a, signedDiff now x.due ≤ signedDiff now e.due) ∧
      (∀ x ∈ b, signedDiff now e.due < signedDiff now x.due)) ∧
  ∀ (s u : State) (f : Frame) (r : ArmRequest) (c : Fin 8) (held : List Entry) (code : ResultCode),
    f.wellFormed .arm = true → s.Takes .arm f → parseArm f.payload = some r → r.channel = c.val →
    s.isPairOdd c = false → actionValid s.settings.channels[c].mode r.action = true →
    paramValid r.action r.param = true → repeatValid r.repetition = true →
    (r.lock = true → s.inLock = true) →
    (∀ e ∈ held, ¬(e.origin = f.sender ∧ e.tag = r.tag)) →
    (code = .ok ∧ held = s.schedule ∧ held.length < 64 ∧ u = s.receive f ∨
      code = .replaced ∧ ∃ a b e, s.schedule = a ++ e :: b ∧ e.origin = f.sender ∧ e.tag = r.tag ∧ held = a ++ b ∧
        u = State.notice e .replaced { s.receive f with schedule := held }) →
    (s.lineReached r.due = false → s.aheadBy r.due ≤ 50000000 →
      exec (.arm f) s =
        .next
          (State.conclude .arm f code (BitVec.ofNat 16 (held.length + 1))
            { u with schedule := insertEntry s.lineTime (r.entry f.sender c r.due) held }).followPairs) ∧
    (s.lineReached r.due = true → r.lateOk = true → s.ScheduleLaw →
      ∀ v,
        v =
          ((held.filter fun e => s.lineReached e.due) ++ [r.entry f.sender c s.lineTime]).foldl (fun t e => t.fire e)
            { u with schedule := held.filter fun e => !s.lineReached e.due } →
        exec (.arm f) s =
          .next (State.conclude .arm f code (BitVec.ofNat 16 v.schedule.length) v).followPairs)

/-- ENTRY_DUE takes the reached entries one after another in schedule order, each on the state the earlier ones left,
where it fires, or is dropped for want of lock (`EntryFiresOrDrops`); entries still ahead stay, and the pairs follow.
Afterwards no entry is reached, and only the schedule, the outputs, the queue and counters have changed (R37,
R39). -/
def Obligations.EntryDueTakesReachedEntriesInOrder : Prop :=
  ∀ s : State, s.ScheduleLaw → ∃ t, exec .entryDue s = .next t ∧
    t =
      State.followPairs
        ((s.schedule.filter fun e => s.lineReached e.due).foldl (fun u e => u.fire e)
          { s with schedule := s.schedule.filter fun e => !s.lineReached e.due }) ∧
    (∀ e ∈ t.schedule, t.lineReached e.due = false) ∧
    s.KeepsControl t ∧ s.KeepsTime t ∧ s.KeepsCaptures t ∧ s.KeepsPeers t ∧ t.slots = s.slots ∧
    t.line = s.line ∧ t.draws = s.draws ∧ t.finished = s.finished

/-- A reached entry, alone at its due, passes its action to its channel and counts as fired. Without a repeat
it leaves the schedule and gives its NOTICE, DONE or HELD. With one, the loop of R41 (`skipRepeats`) finds its
next due: it is re-inserted there with the firings that remain, or leaves with DONE or HELD when none remains,
and the repeats skipped are counted (R40 to R42). One that requires lock is dropped whole without it, its
action not passed (R39). -/
def Obligations.EntryFiresOrDrops : Prop :=
  ∀ (s fired : State) (e : Entry) (rest : List Entry) (held : Bool),
    s.schedule = e :: rest → s.lineReached e.due = true → (∀ x ∈ rest, s.lineReached x.due = false) →
    held = s.firingHeld e.channel e.action →
    fired =
      State.takeAction e.channel e.action e.param
        { s with
          schedule := rest
          counters := { s.counters with fired := bump s.counters.fired } } →
    (e.lockRequired = false ∨ s.inLock = true →
      (e.repetition = none →
        exec .entryDue s =
          .next
            (State.notice { e with heldAtLast := held } (if held then .held else .done) fired).followPairs) ∧
      (∀ (r : Repetition) (fuel skipped : Nat) (next : Option (Time × Option Nat)) (counted : State),
        e.repetition = some r → r.inBounds → ticksSince s.lineTime e.due / r.interval + 1 < fuel →
        skipRepeats s.lineTime r.interval fuel (later e.due r.interval) (r.remaining.map (· - 1)) = (next, skipped) →
        counted =
          { fired with
            counters :=
              { fired.counters with repeatsSkipped := bumpBy skipped s.counters.repeatsSkipped } } →
        (next = none →
          exec .entryDue s =
            .next
              (State.notice { e with heldAtLast := held } (if held then .held else .done) counted).followPairs) ∧
        (∀ due left, next = some (due, left) →
          exec .entryDue s =
            .next
              (State.followPairs
                { counted with
                  schedule :=
                    insertEntry s.lineTime
                      { e with due := due, repetition := some ⟨r.interval, left⟩, heldAtLast := held }
                      rest })))) ∧
    (e.lockRequired = true → s.inLock = false →
      exec .entryDue s =
        .next
          (State.notice e .dropped
            { s with
              schedule := rest
              counters := { s.counters with dropped := bump s.counters.dropped } }).followPairs)

/-- A CANCEL by tag removes the entry of its origin and tag with NOTICE CANCELLED, and answers OK with
1; with no such entry it answers NOT_FOUND with 0 and changes no entry (R44, R166). -/
def Obligations.CancelByTagRemoves : Prop :=
  ∀ (s : State) (f : Frame) (origin : Nat) (tag : Word16),
    f.wellFormed .cancel = true → natAt f.payload 0 = 0 → s.Takes .cancel f → f.payload.length = 4 →
    natAt f.payload 1 = origin → word16At f.payload 2 = tag → 1 ≤ origin → origin ≤ 30 →
    (∀ (a b : List Entry) (e : Entry), s.schedule = a ++ e :: b → e.origin = origin → e.tag = tag →
      (∀ x ∈ a ++ b, ¬(x.origin = origin ∧ x.tag = tag)) →
      exec (.cancelByTag f) s =
        .next
          (State.conclude .cancel f .ok 1
            (State.notice e .cancelled { s.receive f with schedule := a ++ b }))) ∧
    ((∀ x ∈ s.schedule, ¬(x.origin = origin ∧ x.tag = tag)) →
      exec (.cancelByTag f) s = .next (State.conclude .cancel f .notFound 0 (s.receive f)))

/-- A CANCEL by channel removes every entry of the channel, and a FLUSH_SCHEDULE every entry of the
sender, or with scope 1 every entry held: in schedule order, with NOTICE CANCELLED to each one's notify
station, answered with their number. Neither touches a channel (R45, R46, R166, R172). -/
def Obligations.CancelAndFlushRemoveInBulk : Prop :=
  ∀ (s : State) (f : Frame),
    (∀ c : Fin 8, f.wellFormed .cancel = true → s.Takes .cancel f → f.payload = [1, BitVec.ofNat 8 c.val] →
      exec (.cancelByChannel f) s =
        .next
          (State.conclude .cancel f (if s.schedule.any (·.channel == c) then .ok else .notFound)
            (BitVec.ofNat 16 (s.schedule.countP (·.channel == c)))
            ((s.schedule.filter (·.channel == c)).foldl (fun t e => State.notice e .cancelled t)
              { s.receive f with schedule := s.schedule.filter (·.channel != c) }))) ∧
    (∀ b : Byte, 8 ≤ b.toNat → f.wellFormed .cancel = true → s.Takes .cancel f → f.payload = [1, b] →
      exec (.cancelByChannel f) s = .next (State.conclude .cancel f .badChannel 0 (s.receive f))) ∧
    (f.wellFormed .control = true → s.Takes .control f →
      (f.payload = [2, 0] →
        exec (.flushSchedule f) s =
          .next
            (State.conclude .control f .ok (BitVec.ofNat 16 (s.schedule.countP (·.origin == f.sender)))
              ((s.schedule.filter (·.origin == f.sender)).foldl (fun t e => State.notice e .cancelled t)
                { s.receive f with schedule := s.schedule.filter (·.origin != f.sender) }))) ∧
      (f.payload = [2, 1] →
        exec (.flushSchedule f) s =
          .next
            (State.conclude .control f .ok (BitVec.ofNat 16 s.schedule.length)
              (s.schedule.foldl (fun t e => State.notice e .cancelled t) { s.receive f with schedule := [] }))))

/-- Every step keeps the schedule's law: its bound, its uniqueness, its order and its reach (R26,
R27). -/
def Obligations.StepsKeepScheduleLaw : Prop :=
  ∀ s t : State, s.ScheduleLaw → s.TemplateLaw → step s = .next t → t.ScheduleLaw ∧ t.TemplateLaw

/-! ### Chapter 3: output channels -/

/-- SET_HIGH, SET_LOW and TOGGLE set the latch and cut a pulse or burst in flight, each cut counted,
held or not (R57). PULSE starts at the inverse of the latch, or retriggers with its level kept (R58);
BURST starts with an ACTIVE half, or extends the one in flight up to 65,535 cycles (R59, R60); on a held
channel neither has any effect (R75). That the cap at 65,535 holds too for a BURST taken in the moment in which the
last INACTIVE half ends, but before that end, is the model's choice (log entry 29, DESIGN CHOICE). -/
def Obligations.LatchPulseAndBurstActions : Prop :=
  ∀ (s : State) (c : Fin 8) (param : Word16),
    (∀ a, a = .setHigh ∨ a = .setLow ∨ a = .toggle →
      s.takeAction c a param =
        { s with
          channels :=
            s.channels.set c
              { s.channels[c] with
                latch := (if a = .setHigh then true else if a = .setLow then false else !s.channels[c].latch)
                pulse := none
                burst := none }
          counters :=
            { s.counters with
              pulsesCut :=
                if s.channels[c].pulse = none then s.counters.pulsesCut else bump s.counters.pulsesCut
              burstsCut :=
                if s.channels[c].burst = none then s.counters.burstsCut else bump s.counters.burstsCut } }) ∧
    (s.isHeld c = true → s.takeAction c .pulse param = s ∧ s.takeAction c .burst param = s) ∧
    (s.isHeld c = false →
      (s.channels[c].pulse = none →
        s.takeAction c .pulse param =
          { s with
            channels :=
              s.channels.set c
                { s.channels[c] with
                  pulse := some ⟨!s.channels[c].latch, s.localTime + BitVec.ofNat 32 param.toNat⟩ } }) ∧
      (∀ p, s.channels[c].pulse = some p →
        s.takeAction c .pulse param =
          { s with
            channels :=
              s.channels.set c
                { s.channels[c] with pulse := some ⟨p.level, s.localTime + BitVec.ofNat 32 param.toNat⟩ } }) ∧
      (s.channels[c].burst = none →
        s.takeAction c .burst param =
          { s with
            channels :=
              s.channels.set c
                { s.channels[c] with
                  burst := some ⟨param.toNat, true, s.localTime + BitVec.ofNat 32 s.settings.carrierHalf⟩ } }) ∧
      (∀ b, s.channels[c].burst = some b →
        s.takeAction c .burst param =
          { s with
            channels :=
              s.channels.set c
                { s.channels[c] with burst := some { b with cycles := min (b.cycles + param.toNat) 65535 } } }))

/-- A burst of `count` cycles lasts 2 × `count` half-periods: it is in flight after each of its first
2 × `count` − 1 half ends, each half a half-period after the one before, and gone after the last
(R59). -/
def Obligations.BurstLastsItsCycles : Prop :=
  ∀ (count half k : Nat) (start : Time), 1 ≤ count →
    (k < 2 * count →
      ((fun o => Option.bind o (Burst.next half))^[k] (some ⟨count, true, later start half⟩)) =
        some ⟨count - k / 2, decide (k % 2 = 0), later start ((k + 1) * half)⟩) ∧
    ((fun o => Option.bind o (Burst.next half))^[2 * count] (some ⟨count, true, later start half⟩)) = none

/-- START_GEN, STOP_GEN and LOAD (R61 to R63): what each leaves of the generator, held or not. -/
def Obligations.GeneratorActions : Prop :=
  ∀ (s : State) (c : Fin 8) (param : Word16) (g : GenSet),
    (s.channels[c].pendingSet.getD s.channels[c].activeSet) = g →
    (s.takeAction c .startGen param =
      { s with
        channels :=
          s.channels.set c
            { s.channels[c] with
              gen := .running
              activeSet := g
              pendingSet := none
              phaseHigh := decide (0 < g.high.toNat)
              frameStart := s.lineTime
              highEnd := s.lineTime + BitVec.ofNat 32 g.high.toNat
              frameEnd := s.lineTime + BitVec.ofNat 32 g.period.toNat } }) ∧
    (s.takeAction c .stopGen param =
      { s with
        channels :=
          s.channels.set c
            { s.channels[c] with
              gen :=
                if s.channels[c].gen = .stopped then .stopped
                else if param = 0 then .stopped
                else .stopping } }) ∧
    (s.channels[c].gen = .stopped →
      s.takeAction c .load param =
        { s with channels := s.channels.set c { s.channels[c] with activeSet := g, pendingSet := none } }) ∧
    (s.channels[c].gen ≠ .stopped →
      s.takeAction c .load param =
        { s with
          channels :=
            s.channels.set c
              { s.channels[c] with
                activeSet := g
                pendingSet := none
                phaseHigh := decide (0 < g.high.toNat)
                frameStart := s.lineTime
                highEnd := s.lineTime + BitVec.ofNat 32 g.high.toNat
                frameEnd := s.lineTime + BitVec.ofNat 32 g.period.toNat } })

/-- The frames a forward step skips, found in closed form, are those of the loop of R68. -/
def Obligations.FrameSkipsAsTheLoop : Prop :=
  ∀ (now : Time) (ch : Channel) (fuel : Nat),
    1 ≤ ch.activeSet.period.toNat → isReached now ch.frameStart = true →
    ch.highEnd = later ch.frameStart ch.activeSet.high.toNat →
    ch.frameEnd = later ch.frameStart ch.activeSet.period.toNat →
    ch.framesPassed now < fuel → ch.skipPassed now = skipFrames now fuel ch

/-- PULSE_END removes a pulse whose end is reached, and an unheld channel of no pair then shows its
generator's phase or its latch (R55, R58). BURST_HALF_END moves an ACTIVE half to an INACTIVE one, an
INACTIVE half to the next cycle, and ends the burst when no cycle remains (R59). The pairs follow (R71). -/
def Obligations.PulseAndBurstHalvesEnd : Prop :=
  ∀ (s : State) (c : Fin 8),
    (∀ p, s.channels[c].pulse = some p → s.localReached p.stop = true →
      ∃ t, exec (.pulseEnd c) s = .next t ∧
        t = State.followPairs { s with channels := s.channels.set c { s.channels[c] with pulse := none } } ∧
        (s.isPaired c = false → s.isHeld c = false → s.channels[c].burst = none →
          t.drive c = if s.channels[c].gen = .stopped then s.channels[c].latch else s.channels[c].phaseHigh)) ∧
    (∀ b, s.channels[c].burst = some b → s.localReached b.stop = true →
      exec (.burstHalfEnd c) s =
        .next
          (State.followPairs
            { s with
              channels :=
                s.channels.set c
                  { s.channels[c] with
                    burst :=
                      if b.activeHalf then
                        some { b with activeHalf := false, stop := b.stop + BitVec.ofNat 32 s.settings.carrierHalf }
                      else if b.cycles ≤ 1 then none
                      else some ⟨b.cycles - 1, true, b.stop + BitVec.ofNat 32 s.settings.carrierHalf⟩ } }))

/-- What a change of D does to an enabled pair that is not held: the drive to go to 0 is 0 at once, and the
one to go to 1 is given a turn-on one dead band later, at once for a dead band of 0. Several changes in one
moment are one change from the drives before them, and none if D is as before: that a moment is one value of
local time is the model's reading (log entry 19, DEDUCED). A pair that is held or not enabled does not follow
(R71, R72). DEAD_BAND_EXPIRY turns on the channel that D turns on, and no other
(R72). -/
def Obligations.DeadBandExpiryTurnsOn : Prop :=
  (∀ (s t : State) (p : Fin 4) (v : PairDrive) (d : Bool),
    t = s.followPairs → d = s.channels[evenOf p].baseDrive →
    v = (if s.pairs[p].moment = some s.localTime then s.pairs[p].before else s.pairs[p].drive) →
    t = { s with pairs := t.pairs } ∧
    (s.settings.pairs[p].enabled = false ∨ s.isHeld (evenOf p) = true → t.pairs[p] = s.pairs[p]) ∧
    (s.settings.pairs[p].enabled = true → s.isHeld (evenOf p) = false →
      (d = v.d → t.pairs[p] = { s.pairs[p] with drive := v }) ∧
      (d ≠ v.d →
        t.pairs[p].moment = some s.localTime ∧ t.pairs[p].before = v ∧
        (s.settings.pairs[p].deadBand = 0 → t.pairs[p].drive = ⟨d, d, !d, none⟩) ∧
        (0 < s.settings.pairs[p].deadBand →
          t.pairs[p].drive =
            ⟨d, false, false, some (s.localTime + BitVec.ofNat 32 s.settings.pairs[p].deadBand)⟩)))) ∧
  ∀ (s : State) (p : Fin 4) (u : Time),
    s.pairs[p].drive.turnOn = some u → s.localReached u = true →
    ∃ t, exec (.deadBandExpiry p) s = .next t ∧ t = { s with pairs := t.pairs } ∧
      t.pairs[p].drive = ⟨s.pairs[p].drive.d, s.pairs[p].drive.d, !s.pairs[p].drive.d, none⟩ ∧
      (∀ q, q ≠ p → t.pairs[q] = s.pairs[q])

/-- GEN_HIGH_END moves the phase to LOW (R64). GEN_FRAME_END counts the frame, makes a pending set active,
and starts the next frame at the old frame end, or stops a STOPPING generator in its LOW phase, also where the high
end falls in the same moment (R64, R65); the pairs follow (R71).
Where both ends have been reached, a GEN_HIGH_END does what the GEN_FRAME_END does: the model's reading of
R65's one event, for high ends that coincide with the frame end and for those left behind it alike (log entry
17, DEDUCED). -/
def Obligations.GeneratorFramesRun : Prop :=
  ∀ (s : State) (c : Fin 8) (g : GenSet), (s.channels[c].pendingSet.getD s.channels[c].activeSet) = g →
    (s.channels[c].gen ≠ .stopped → s.channels[c].phaseHigh = true → s.lineReached s.channels[c].highEnd = true →
      (s.lineReached s.channels[c].frameEnd = false →
        exec (.genHighEnd c) s =
          .next
            (State.followPairs
              { s with channels := s.channels.set c { s.channels[c] with phaseHigh := false } })) ∧
      (s.lineReached s.channels[c].frameEnd = true → exec (.genHighEnd c) s = exec (.genFrameEnd c) s)) ∧
    (s.lineReached s.channels[c].frameEnd = true →
      (s.channels[c].gen = .running →
        exec (.genFrameEnd c) s =
          .next
            (State.followPairs
              { s with
                channels :=
                  s.channels.set c
                    { s.channels[c] with
                      frameCount := s.channels[c].frameCount + 1
                      activeSet := g
                      pendingSet := none
                      phaseHigh := decide (0 < g.high.toNat)
                      frameStart := s.channels[c].frameEnd
                      highEnd := s.channels[c].frameEnd + BitVec.ofNat 32 g.high.toNat
                      frameEnd := s.channels[c].frameEnd + BitVec.ofNat 32 g.period.toNat } })) ∧
      (s.channels[c].gen = .stopping →
        exec (.genFrameEnd c) s =
          .next
            (State.followPairs
              { s with
                channels :=
                  s.channels.set c
                    { s.channels[c] with
                      gen := .stopped
                      phaseHigh := false
                      frameCount := s.channels[c].frameCount + 1
                      activeSet := g
                      pendingSet := none } })))

/-- A SETGEN is checked in R66's order: BAD_CHANNEL, PAIRED, BAD_ACTION, BAD_PARAM, each with detail 0 and
the channel as it was. One that passes becomes the active set of a STOPPED generator and the pending set of
another, and is answered OK with 0 or 1 (R66, R167). -/
def Obligations.SetgenTakesSet : Prop :=
  ∀ (s : State) (f : Frame) (period high : Word16),
    f.wellFormed .setgen = true → s.Takes .setgen f →
    word16At f.payload 1 = period → word16At f.payload 3 = high →
    (8 ≤ natAt f.payload 0 → exec (.setgen f) s = .next (State.conclude .setgen f .badChannel 0 (s.receive f))) ∧
    ∀ c : Fin 8, natAt f.payload 0 = c.val →
      (∀ code,
        s.isPairOdd c = true ∧ code = .paired ∨
        s.isPairOdd c = false ∧ s.settings.channels[c].mode ≠ .generator ∧ code = .badAction ∨
        s.isPairOdd c = false ∧ s.settings.channels[c].mode = .generator ∧
          (period.toNat < 2 ∨ period.toNat < high.toNat) ∧ code = .badParam →
        exec (.setgen f) s = .next (State.conclude .setgen f code 0 (s.receive f))) ∧
      (s.isPairOdd c = false → s.settings.channels[c].mode = .generator → 2 ≤ period.toNat →
        high.toNat ≤ period.toNat →
        (s.channels[c].gen = .stopped →
          exec (.setgen f) s =
            .next
              (State.conclude .setgen f .ok 0
                { s.receive f with
                  channels :=
                    s.channels.set c { s.channels[c] with activeSet := ⟨period, high⟩, pendingSet := none } })) ∧
        (s.channels[c].gen ≠ .stopped →
          exec (.setgen f) s =
            .next
              (State.conclude .setgen f .ok 1
                { s.receive f with
                  channels := s.channels.set c { s.channels[c] with pendingSet := some ⟨period, high⟩ } })))

/-- A RELEASE_HOLD clears the hold of every named channel, or pair, that is held and either is not
configured to hold on loss or finds the station in lock. A released enabled pair has both drives at 0, and
the one its D turns on is given a turn-on of one dead band, or turned on at once for a dead band of 0; every
other pair is as it was. It answers, by its record and a REPLY, UNSYNCED when a named channel stays held and
OK otherwise, with the mask released (R76, R77, R160, R161, R172). -/
def Obligations.ReleaseHoldReleases : Prop :=
  ∀ (s : State) (f : Frame) (mask : Byte),
    f.wellFormed .control = true → s.Takes .control f → f.payload = [0, mask] → s.HoldLaw →
    ∃ t, exec (.releaseHold f) s =
        .next
          (State.conclude .control f
            (if ∃ c : Fin 8, s.releaseNames mask c = true ∧ t.isHeld c = true then .unsynced else .ok)
            (BitVec.ofNat 16 (maskOf fun c : Fin 8 => s.isHeld c && !t.isHeld c)) t) ∧
      t = { s.receive f with channels := t.channels, pairs := t.pairs } ∧
      (∀ c : Fin 8, t.channels[c] =
        { s.channels[c] with
          hold :=
            if s.releaseNames mask c = true ∧ (s.holdsOnLoss c = false ∨ s.inLock = true) then none
            else s.channels[c].hold }) ∧
      (∀ (p : Fin 4) (d : Bool), d = s.channels[evenOf p].baseDrive →
        (s.settings.pairs[p].enabled = true → s.isHeld (evenOf p) = true → t.isHeld (evenOf p) = false →
          t.pairs[p] =
            { drive :=
                if s.settings.pairs[p].deadBand = 0 then ⟨d, d, !d, none⟩
                else ⟨d, false, false, some (s.localTime + BitVec.ofNat 32 s.settings.pairs[p].deadBand)⟩
              moment := none
              before := ⟨d, false, false, none⟩ }) ∧
        (s.settings.pairs[p].enabled = false ∨ s.isHeld (evenOf p) = false ∨ t.isHeld (evenOf p) = true →
          t.pairs[p] = s.pairs[p]))

/-- Every step keeps the generators' law, every step keeps the holds' law, and every step keeps an enabled
pair that is not held at its present D (R71). -/
def Obligations.StepsKeepOutputLaws : Prop :=
  ∀ s t : State, step s = .next t →
    (s.GeneratorLaw → t.GeneratorLaw) ∧ (s.HoldLaw → t.HoldLaw) ∧ (s.FollowLaw → t.FollowLaw)

/-- The drives of an enabled pair are never both 1, in any state that meets the pairs' law, and every
step keeps that law (R72, R74, R77). -/
def Obligations.PairNeverDrivesBoth : Prop :=
  (∀ (s : State) (p : Fin 4), s.PairLaw → s.settings.pairs[p].enabled = true →
    ¬(s.drive (evenOf p) = true ∧ s.drive (oddOf p) = true)) ∧
  ∀ s t : State, s.PairLaw → step s = .next t → t.PairLaw

/-! ### Chapter 4: capture inputs and marks -/

/-- What an edge does that gives no capture. An edge of interest in a hold-off is suppressed: it sets the
level and counts, and no more. An accepted edge short of the prescaler's limit advances the prescale
count and opens a hold-off. An edge that is not of interest sets the level. HOLD_OFF_EXPIRY ends a hold-off
whose end is reached (R84, R85, R86, R93). The model's choice, for commands that stand for samples, is that a
CAPTURE_EDGE of an edge not of interest sets the level too, and that a command to the level already held, or a
second one in one tick, is no edge and changes nothing (log entry 14); and that before configuration ends the
pins alone move (log entry 7). -/
def Obligations.EdgesThatCaptureNothing : Prop :=
  ∀ (s : State) (i : Fin 4) (e : Edge) (first : Bool) (edge : State) (input : CaptureInput),
    input = { s.inputs[i] with level := (e == .rise), sampled := true } →
    edge = { s with inputPins := s.inputPins.set i (e == .rise), inputs := s.inputs.set i input } →
    (s.station.samples = true → s.inputs[i].level = (e == .fall) → s.inputs[i].sampled = false →
      (∀ u, s.settings.inputs[i].mode.interested e = true → s.inputs[i].holdOffEnd = some u →
        exec (.captureEdge i e first) s =
          .next
            (State.followPairs
              { edge with
                inputs := s.inputs.set i { input with suppressed := bump s.inputs[i].suppressed } })) ∧
      (∀ n, e = .rise →
        (s.settings.inputs[i].mode = .rise4 ∧ n = 4 ∨ s.settings.inputs[i].mode = .rise16 ∧ n = 16) →
        s.inputs[i].holdOffEnd = none → s.inputs[i].prescale + 1 < n →
        exec (.captureEdge i e first) s =
          .next
            (State.followPairs
              { edge with
                inputs :=
                  s.inputs.set i
                    { input with
                      prescale := s.inputs[i].prescale + 1
                      holdOffEnd :=
                        if s.settings.inputs[i].holdOff = 0 then none
                        else some (s.localTime + BitVec.ofNat 32 s.settings.inputs[i].holdOff) } })) ∧
      (s.settings.inputs[i].mode.interested e = false →
        exec (.inputEdgeNotOfInterest i e) s = .next edge ∧ exec (.captureEdge i e first) s = .next edge)) ∧
    (s.station.samples = true → s.inputs[i].level = (e == .rise) ∨ s.inputs[i].sampled = true →
      exec (.inputEdgeNotOfInterest i e) s = .next s ∧ exec (.captureEdge i e first) s = .next s) ∧
    (s.station.samples = false →
      exec (.inputEdgeNotOfInterest i e) s = .next { s with inputPins := s.inputPins.set i (e == .rise) } ∧
      exec (.captureEdge i e first) s = .next { s with inputPins := s.inputPins.set i (e == .rise) }) ∧
    (∀ u, s.inputs[i].holdOffEnd = some u → s.localReached u = true →
      exec (.holdOffExpiry i) s =
        .next { s with inputs := s.inputs.set i { s.inputs[i] with holdOffEnd := none } })

/-- A captured edge gives a record of the input, the edge, the line time, the station mark number and
the sync state, entered in the log as the newest; the mark number advances (R85 to R89). In LISTENING and
ACTIVE the record is handed to the reaction table as a local mark; in ACTIVE a publishing input's MARK, with
the record as its payload, is handed to the transmit queue for all stations, before or after the local mark;
in SILENCED neither is (R90, R91). -/
def Obligations.CapturedEdgeIsLogged : Prop :=
  ∀ (s logged : State) (i : Fin 4) (e : Edge) (first : Bool) (mark : Mark) (payload : List Byte),
    s.station.samples = true → s.inputs[i].level = (e == .fall) → s.inputs[i].sampled = false →
    s.settings.inputs[i].mode.interested e = true → s.inputs[i].holdOffEnd = none →
    s.settings.inputs[i].mode.divisor ≤ s.inputs[i].prescale + 1 →
    mark = ⟨s.settings.station, i, e, s.lineTime, s.markNumber, s.sync⟩ →
    payload =
      [BitVec.ofNat 8 i.val, if e = .rise then 0 else 1] ++ bytes32 s.lineTime ++ bytes16 s.markNumber ++
        [BitVec.ofNat 8 (syncCode s.sync)] →
    logged =
      { s with
        inputPins := s.inputPins.set i (e == .rise)
        inputs :=
          s.inputs.set i
            { s.inputs[i] with
              level := (e == .rise)
              sampled := true
              prescale := if s.settings.inputs[i].mode.divisor = 1 then s.inputs[i].prescale else 0
              holdOffEnd :=
                if s.settings.inputs[i].holdOff = 0 then none
                else some (s.localTime + BitVec.ofNat 32 s.settings.inputs[i].holdOff) }
        captureLog :=
          (if s.captureLog.length < 32 then s.captureLog else s.captureLog.tail) ++
            [⟨i, e, s.lineTime, s.markNumber, s.sync⟩]
        markNumber := s.markNumber + 1
        counters :=
          { s.counters with
            logOverruns :=
              if s.captureLog.length < 32 then s.counters.logOverruns else bump s.counters.logOverruns } } →
    (s.station = .silenced → exec (.captureEdge i e first) s = .next logged.followPairs) ∧
    (s.station = .listening ∨ s.station = .active ∧ s.settings.inputs[i].publish = false →
      exec (.captureEdge i e first) s = .next (logged.takeMark mark).followPairs) ∧
    (s.station = .active → s.settings.inputs[i].publish = true →
      exec (.captureEdge i e first) s =
        .next
          (if first then (logged.arrive .mark 31 0 payload false).takeMark mark
            else (logged.takeMark mark).arrive .mark 31 0 payload false).followPairs) ∧
    ∃ t, exec (.captureEdge i e first) s = .next t ∧
      t.inputs = logged.inputs ∧ t.inputPins = logged.inputPins ∧ t.captureLog = logged.captureLog ∧
      t.markNumber = logged.markNumber ∧ t.counters.logOverruns = logged.counters.logOverruns ∧
      (s.station = .silenced →
        t.slots = s.slots ∧ t.schedule = s.schedule ∧ t.channels = s.channels ∧ s.KeepsQueue t) ∧
      (s.station ≠ .active → t.queue = s.queue) ∧
      s.KeepsControl t ∧ s.KeepsTime t ∧ s.KeepsPeers t ∧ t.line = s.line ∧ t.draws = s.draws ∧
      t.finished = s.finished

/-- Every step keeps the capture log's law, and every step keeps the tag law. -/
def Obligations.StepsKeepLogAndTagLaws : Prop :=
  ∀ s t : State, step s = .next t → (s.LogLaw → t.LogLaw) ∧ (s.TagLaw → t.TagLaw)

/-! ### Chapter 5: reactions -/

/-- A received mark changes, in the table, the hit count and the last outcome of each matching slot,
and nothing else there; a bad mark is counted and changes no slot (R92, R103, R110). A MARK addressed to
another station, and any MARK in SILENCED, is delivered to no slot: it refreshes its sender's peer entry and
roster place and does no more (R92); that a bad one is not counted in SILENCED is the model's choice (log entry
30). The table takes a mark whole: its matching slots in order from 0 to 23, each on the state the earlier ones
left, and each match runs R104 to R108 to its outcome, which is the slot's last outcome and advances its counter,
ARMED none (R103, R110). -/
def Obligations.MarkAdvancesMatchingSlots : Prop :=
  (∀ (s : State) (m : Mark),
    s.takeMark m =
      ((List.finRange 24).filter fun i => s.slots[i].any (·.matchesMark m)).foldl
        (fun t i => (s.slots[i].map fun r => t.matchTaken m r i).getD t) s) ∧
  (∀ n : Counters,
    n.countOutcome .armed = n ∧
    n.countOutcome .gated = { n with reactionsGated := bump n.reactionsGated } ∧
    n.countOutcome .unsynced = { n with reactionsUnsynced := bump n.reactionsUnsynced } ∧
    n.countOutcome .late = { n with reactionsLate := bump n.reactionsLate } ∧
    n.countOutcome .tooFar = { n with reactionsTooFar := bump n.reactionsTooFar } ∧
    n.countOutcome .kept = { n with reactionsKept := bump n.reactionsKept } ∧
    n.countOutcome .full = { n with reactionsFull := bump n.reactionsFull }) ∧
  ∀ (s : State) (f : Frame),
    f.wellFormed .mark = true → f.sender ≠ s.settings.station →
    (s.station.receives = true → s.addressed f = false ∨ s.station = .silenced →
      ∃ t, exec (.markReceived f) s = .next t ∧ t = { s.receive f with pairs := t.pairs } ∧
        (s.FollowLaw → (∀ p : Fin 4, s.pairs[p].moment ≠ some s.localTime) → t.pairs = s.pairs)) ∧
    (∀ m, s.station = .active ∨ s.station = .listening → s.addressed f = true →
      parseMark f.sender f.payload = some m →
      ∃ t, exec (.markReceived f) s = .next t ∧
        (∀ i : Fin 24, s.slots[i] = none → t.slots[i] = none) ∧
        (∀ (i : Fin 24) (r : Reaction), s.slots[i] = some r →
          (r.matchesMark m = false → t.slots[i] = some r) ∧
          (r.matchesMark m = true → ∃ o, o ≠ LastOutcome.none ∧
            t.slots[i] = some { r with hits := bump r.hits, lastOutcome := o })) ∧
        s.KeepsControl t ∧ s.KeepsTime t ∧ s.KeepsCaptures t ∧ t.finished = s.finished ∧
        t.peers = (s.receive f).peers ∧ t.roster = (s.receive f).roster ∧ t.line = (s.receive f).line ∧
        t = ((s.receive f).takeMark m).followPairs) ∧
    (∀ (m : Mark) (i : Fin 24) (r : Reaction) (u : State) (o : LastOutcome),
      s.station = .active ∨ s.station = .listening → s.addressed f = true → parseMark f.sender f.payload = some m →
      s.slots[i] = some r → r.matchesMark m = true →
      (∀ j : Fin 24, j ≠ i → ∀ q ∈ s.slots[j], q.matchesMark m = false) →
      (s.receive f).runMatch m r i = (u, o) →
      exec (.markReceived f) s =
        .next
          (State.followPairs
            { u with
              slots := s.slots.set i (some { r with hits := bump r.hits, lastOutcome := o })
              counters := u.counters.countOutcome o })) ∧
    (s.station = .active ∨ s.station = .listening → s.addressed f = true → parseMark f.sender f.payload = none →
      exec (.markReceived f) s =
        .next
          (State.followPairs
            { s.receive f with counters := { s.counters with badMarks := bump s.counters.badMarks } }))

/-- A match ends at the first test that decides it: gate, lock, lateness, horizon, and then the
schedule's answer (R104 to R108). An outcome other than ARMED leaves the state as it was. ARMED hands the
schedule one entry: origin this station, source the slot, the tag and the other fields of the template, the
held-at-last-firing flag clear, and as its due the capture time plus the delay, or where that is reached
(FIRE_NOW) the present line time. An entry of this station and tag is removed first, with outcome REPLACED. A
due ahead puts the entry at its place; a reached one fires at its insertion (R36, R37, R106, R108), after the
entries held that this moment has reached and not yet fired, which is the model's reading (log entry 26). -/
def Obligations.MatchTestsInOrder : Prop :=
  ∀ (s : State) (m : Mark) (r : Reaction) (i : Fin 24),
    (s.runMatch m r i).2 =
      (if r.gate.any (fun g => s.inputs[g.1].level != g.2) then .gated
      else if r.lockRequired && !(syncInLock m.sync && s.inLock) then .unsynced
      else if s.lineReached (m.time + BitVec.ofNat 32 r.delay) && r.latePolicy == .drop then .late
      else if !s.lineReached (m.time + BitVec.ofNat 32 r.delay) &&
          decide (50000000 < s.aheadBy (m.time + BitVec.ofNat 32 r.delay)) then .tooFar
      else if s.schedule.any (fun e => e.origin == s.settings.station && e.tag == r.tag) then
        (if r.retrigger = .keep then .kept else .armed)
      else if 64 ≤ s.schedule.length then .full
      else .armed) ∧
    ((s.runMatch m r i).2 ≠ .armed → (s.runMatch m r i).1 = s) ∧
    ((s.runMatch m r i).2 = .armed →
      ∀ (u : State) (due : Time) (e : Entry) (held : List Entry),
        due = m.time + BitVec.ofNat 32 r.delay →
        e =
          { origin := s.settings.station
            tag := r.tag
            channel := r.channel
            action := r.action
            param := r.param
            due := if s.lineReached due then s.lineTime else due
            repetition := r.repetition
            lockRequired := r.lockRequired
            notify := r.notify
            source := some i
            heldAtLast := false } →
        (∀ x ∈ held, ¬(x.origin = s.settings.station ∧ x.tag = r.tag)) →
        (held = s.schedule ∧ u = s ∨
          ∃ a b x, s.schedule = a ++ x :: b ∧ x.origin = s.settings.station ∧ x.tag = r.tag ∧ held = a ++ b ∧
            u = State.notice x .replaced { s with schedule := held }) →
        (s.lineReached due = false →
          (s.runMatch m r i).1 = { u with schedule := insertEntry s.lineTime e held }) ∧
        (s.lineReached due = true → s.ScheduleLaw →
          (s.runMatch m r i).1 =
            ((held.filter fun x => s.lineReached x.due) ++ [e]).foldl (fun t x => t.fire x)
              { u with schedule := held.filter fun x => !s.lineReached x.due }))

/-- A REACT INSTALL is checked in R99's order: BAD_PARAM for a slot outside 0..23, BAD_CHANNEL, PAIRED,
BAD_ACTION, BAD_PARAM for a field out of range, TAG_IN_USE; a refused one leaves the table as it was. One
that passes writes its reaction into the slot, with a hit count of 0 and last outcome NONE. Each is answered
with the occupancy, one that passes OK or REPLACED (R99, R100, R168). -/
def Obligations.InstallWritesSlot : Prop :=
  ∀ (s : State) (f : Frame) (q : InstallRequest) (refuse : ResultCode → Prop),
    f.wellFormed .react = true → s.Takes .react f → parseInstall f.payload = some q →
    (refuse = fun code =>
      exec (.reactInstall f) s =
        .next (State.conclude .react f code (BitVec.ofNat 16 s.occupiedSlots) (s.receive f))) →
    (24 ≤ q.slot → refuse .badParam) ∧
    ∀ i : Fin 24, q.slot = i.val →
      (8 ≤ q.channel → refuse .badChannel) ∧
      ∀ c : Fin 8, q.channel = c.val →
        (s.isPairOdd c = true → refuse .paired) ∧
        (s.isPairOdd c = false →
          (actionValid s.settings.channels[c].mode q.action = false → refuse .badAction) ∧
          (actionValid s.settings.channels[c].mode q.action = true →
            (q.reaction s.settings.station f.sender c = none → refuse .badParam) ∧
            ((q.reaction s.settings.station f.sender c).isSome = true ↔
              paramValid q.action q.param = true ∧ repeatValid q.repetition = true ∧ q.delay ≤ 50000000 ∧
              (q.source = 255 ∨ 1 ≤ q.source ∧ q.source ≤ 30) ∧ (q.input = 255 ∨ q.input ≤ 3) ∧
              (q.gateInput = 255 ∨ q.gateInput ≤ 3 ∧ q.gateLevel ≤ 1) ∧
              (q.notify = 0 ∨ q.notify ≤ 30 ∧ q.notify ≠ s.settings.station)) ∧
            ∀ r, q.reaction s.settings.station f.sender c = some r →
              r.installer = f.sender ∧ r.hits = 0 ∧ r.lastOutcome = .none ∧ r.tag = q.tag ∧
              ((∃ j : Fin 24, j ≠ i ∧ ∃ x, s.slots[j] = some x ∧ x.tag = q.tag) → refuse .tagInUse) ∧
              ((∀ j : Fin 24, j ≠ i → ∀ x, s.slots[j] = some x → x.tag ≠ q.tag) →
                exec (.reactInstall f) s =
                  .next
                    (State.conclude .react f (if s.slots[i] = none then .ok else .replaced)
                      (BitVec.ofNat 16 (s.occupiedSlots + if s.slots[i] = none then 1 else 0))
                      { s.receive f with slots := s.slots.set i (some r) }))))

/-- A REACT REMOVE: a slot outside 0..23 is refused BAD_PARAM, an empty slot gives NOT_FOUND and leaves
the table, and an occupied slot is emptied, its reaction discarded and its tag freed for any slot; the
entries it armed stay, and the occupancy after the command is answered (R101). -/
def Obligations.RemoveEmptiesSlot : Prop :=
  ∀ (s : State) (f : Frame), f.wellFormed .react = true → s.Takes .react f →
    (∀ b : Byte, 24 ≤ b.toNat → f.payload = [1, b] →
      exec (.reactRemove f) s =
        .next (State.conclude .react f .badParam (BitVec.ofNat 16 s.occupiedSlots) (s.receive f))) ∧
    (∀ i : Fin 24, f.payload = [1, BitVec.ofNat 8 i.val] →
      (s.slots[i] = none →
        exec (.reactRemove f) s =
          .next (State.conclude .react f .notFound (BitVec.ofNat 16 s.occupiedSlots) (s.receive f))) ∧
      (∀ r, s.slots[i] = some r →
        exec (.reactRemove f) s =
          .next
            (State.conclude .react f .ok (BitVec.ofNat 16 (s.occupiedSlots - 1))
              { s.receive f with slots := s.slots.set i none }) ∧
        (∀ j, s.TagLaw → State.tagElsewhere j r.tag { s with slots := s.slots.set i none } = false)))

/-! ### Chapter 6: peers and the roster -/

/-- A clean frame from another station gives a sample, creates or refreshes its sender's peer entry with
its command record kept, and moves the sender to the roster's end (R6, R116, R121). A HELLO, a STAMP and
a command for another station do no more, and a foreign answer is counted (R136). A frame for which no time
was latched draws a free value for its sample: the model's choice (log entry 4). -/
def Obligations.FramesFeedPeersAndRoster : Prop :=
  ∀ (s : State) (f : Frame), s.station.receives = true → f.sender ≠ s.settings.station →
    (s.receive f =
      { s with
        peers := (s.receive f).peers
        roster := s.roster.filter (· != f.sender) ++ [f.sender]
        line := { s.line with latched := none }
        draws := if s.line.latched = none then s.draws + 1 else s.draws }) ∧
    (∀ n, n ≠ f.sender → (s.receive f).peer? n = s.peer? n) ∧
    (∀ u, s.line.latched = some u →
      (s.receive f).peer? f.sender =
        some
          { station := f.sender
            sample := f.stamp + BitVec.ofNat 32 s.settings.lineDelay - (u + s.correction)
            age := 0
            reported := f.sync
            silence := 0
            record := (s.peer? f.sender).bind (·.record) }) ∧
    (f.wellFormed .hello = true → exec (.helloReceived f) s = .next (s.receive f)) ∧
    (f.wellFormed .stamp = true → exec (.stampReceived f) s = .next (s.receive f)) ∧
    (∀ kind, kind = .reply ∨ kind = .report ∨ kind = .notice → f.wellFormed kind = true →
      exec (.foreignAnswer kind f) s =
        .next
          { s.receive f with
            counters := { s.counters with foreignAnswers := bump s.counters.foreignAnswers } }) ∧
    (∀ kind, kind.isCommand = true → f.wellFormed kind = true → s.addressed f = false →
      exec (.commandForAnotherStation kind f) s = .next (s.receive f))

/-- A clean frame that bears this station's own number silences it: every channel held with cause FAULT,
the schedule and the queue emptied, its own number out of the roster, a frame on the line cut with a
break, FAULT high, and the rest kept. In SILENCED it changes nothing but the latched time, which is spent
(R126, R188). A step taken in the same moment, some of whose frames arrive after the emptying, has its whole
effect first, and then the station is silenced; those frames are lost and counted: the answer of a command under
lost replies, from a state whose pair controllers follow D, and the NOTICE of a CANCEL under lost notices (R158,
R176). That this order comes as an operand of
DUPLICATE_NUMBER_FRAME, with the number of frames that are placed before the emptying, and that a REPORT counts
as a lost reply, is the model's choice (log entry 31). -/
def Obligations.DuplicateNumberSilences : Prop :=
  ∀ (s : State) (kind : FrameKind) (f : Frame), f.wellFormed kind = true → f.sender = s.settings.station →
    (s.station = .listening ∨ s.station = .active →
      ∃ t, exec (.duplicateNumberFrame kind f none) s = .next t ∧
        t.station = .silenced ∧ t.faultPin = true ∧ t.restartPending = false ∧
        t.schedule = [] ∧ t.queue = [] ∧ t.finished = false ∧
        t.roster = s.roster.filter (· != s.settings.station) ∧ t.peers = s.peers ∧
        (∀ c : Fin 8, t.channels[c] =
          { s.channels[c] with pulse := none, burst := none, gen := .stopped, hold := some .fault }) ∧
        (s.line.condition = .sending →
          t.line.condition = .breaking ∧ t.line.breakEnd = later s.localTime (2 * s.settings.gapTicks)) ∧
        (s.line.condition ≠ .sending → t.line.condition = s.line.condition) ∧
        t.line.target = none ∧ t.line.backoff = none ∧
        t.counters =
          { s.counters with pulsesCut := t.counters.pulsesCut, burstsCut := t.counters.burstsCut } ∧
        s.KeepsTime t ∧ s.KeepsCaptures t ∧ t.slots = s.slots ∧ t.settings = s.settings ∧
        t.listenCount = s.listenCount ∧ t.resetHeld = s.resetHeld ∧ t.draws = s.draws ∧ t.pending = s.pending) ∧
    (s.station = .silenced →
      exec (.duplicateNumberFrame kind f none) s = .next { s with line := { s.line with latched := none } }) ∧
    (∀ o : Overtaken, o.step.wellFormed = true →
      ∃ u v,
        exec (overtakenRow s.settings.station o.step)
            { s with queueShutFrom := if s.station = .active then some (s.nextAge + o.placed) else none } =
          .next u ∧
        exec (.duplicateNumberFrame kind f none) { u with queueShutFrom := none } = .next v ∧
        exec (.duplicateNumberFrame kind f (some o)) s = .next v) ∧
    (∀ (k : FrameKind) (g : Frame) (w : State),
      k.isCommand = true → g.wellFormed k = true → g.destination = s.settings.station →
      g.sender ≠ s.settings.station → s.settings.station ≤ 30 → s.station = .active → s.QueueLaw → s.FollowLaw →
      ((∃ ck body, commandBody k g = some (ck, body) ∧
          (s.repeatOf ck g = none ∧
              w =
                (body (s.receive g)).1.writeRecord g.sender
                  ⟨ck, g.sequence, (body (s.receive g)).2.1, (body (s.receive g)).2.2⟩ ∨
            (s.repeatOf ck g).isSome = true ∧
              w =
                { s.receive g with
                  counters := { s.counters with duplicates := bump s.counters.duplicates } })) ∨
        k = .query ∧ natAt g.payload 0 ≤ 6 ∧ w = s.receive g ∨
        k = .query ∧ 6 < natAt g.payload 0 ∧
          w =
            { s.receive g with
              counters := { s.counters with payloadRefusals := bump s.counters.payloadRefusals } }) →
      ∃ v, exec (.duplicateNumberFrame kind f none) w.followPairs = .next v ∧ v.station = .silenced ∧ v.queue = [] ∧
        exec (.duplicateNumberFrame kind f (some ⟨.delivered k g, w.nextAge - s.nextAge⟩)) s =
          .next { v with counters := { v.counters with lostReplies := bump v.counters.lostReplies } }) ∧
    ∀ (g : Frame) (a b : List Entry) (e : Entry) (station : Nat),
      g.wellFormed .cancel = true → natAt g.payload 0 = 0 → s.Takes .cancel g → g.payload.length = 4 →
      natAt g.payload 1 = e.origin → word16At g.payload 2 = e.tag → 1 ≤ e.origin → e.origin ≤ 30 →
      s.schedule = a ++ e :: b → (∀ x ∈ a ++ b, ¬(x.origin = e.origin ∧ x.tag = e.tag)) → e.notify = some station →
      s.QueueLaw →
      ∃ v,
        exec (.duplicateNumberFrame kind f none)
            (State.writeRecord g.sender ⟨.cancel, g.sequence, .ok, 1⟩ { s.receive g with schedule := a ++ b }) =
          .next v ∧
        exec (.duplicateNumberFrame kind f (some ⟨.delivered .cancel g, 0⟩)) s =
          .next
            { v with
              counters :=
                { v.counters with
                  lostNotices := bump v.counters.lostNotices
                  lostReplies :=
                    if g.destination = 31 then v.counters.lostReplies else bump v.counters.lostReplies } }

/-- A settle point ages every peer by 1 after its sample was used, and a peer whose silence count then
reaches the limit leaves the table and the roster, whatever the order of the blocks' acts (R119,
R120). -/
def Obligations.SettlePointAgesPeers : Prop :=
  ∀ (order : List SettleAct) (s t : State),
    exec (.settlePoint order) s = .next t → s.settleExpires = true → s.RosterLaw →
    t.peers =
      (s.peers.filter fun p => decide (p.silence + 1 < s.settings.silenceLimit)).map
        (fun p => { p with age := p.age + 1, silence := p.silence + 1 }) ∧
    t.roster =
      (s.roster.filter fun n =>
        !s.peers.any fun p => p.station == n && decide (s.settings.silenceLimit ≤ p.silence + 1)) ++
        (if s.station = .listening ∧ s.settings.listenTime ≤ s.listenCount + 1 then [s.settings.station] else [])

/-! ### Chapter 7: line access -/

/-- Activity ends a quiet period and its deferral, and the stretch it begins is received; one that begins
in the moment the station's own transmission is due, whether or not the quiet count step that reaches the
target has been taken, is passed over, which is the model's reading of R139 (log entry 16). A break is noted
and the stamp point latches local time for a stretch being received (R5, R132, R133). -/
def Obligations.StretchIsHeard : Prop :=
  ∀ s : State,
    (∀ passed : Bool, s.line.condition = .quiet →
      (passed = true ↔
        s.station = .active ∧ s.queue ≠ [] ∧ ∃ n k, s.line.quietCount = some n ∧ s.line.target = some k ∧
          (k ≤ n ∨ k = n + 1 ∧ n < 63 ∧ s.localReached s.line.nextStep = true)) →
      exec .activityBegins s =
        .next
          { s with
            line :=
              { s.line with
                condition := .busy
                passedOver := passed
                breakNoted := false
                quietCount := none
                target := none } }) ∧
    (s.line.condition = .busy → s.line.passedOver = false →
      exec .breakHeard s = .next { s with line := { s.line with breakNoted := true } } ∧
      exec .stampPointOfIncomingFrame s = .next { s with line := { s.line with latched := some s.localTime } })

/-- When the line goes quiet, a received stretch is counted under exactly the class it is judged to be, and
one that is not clean is discarded with its latched time; a stretch passed over is counted under none (R133,
R134). A new quiet period begins: the quiet count is 0, and in ACTIVE a deferral target of the base gap, the
rank and the backoff held is formed, which lies in 3..39 gap units (R132, R138). A clean frame is handed on
in the same event, as the command of its row hands it on, before or after the quiet period begins (R125,
R136). The cells as operands of the event are the model's choice (log entries 10 and 11). -/
def Obligations.LineGoesQuietJudges : Prop :=
  ∀ (s : State) (cells : List Bool) (more first : Bool), s.line.condition = .busy →
    (∀ t : State, t.beginQuiet =
      { t with
        line :=
          { t.line with
            condition := .quiet
            passedOver := false
            breakNoted := false
            quietCount := some 0
            nextStep := later t.localTime t.settings.gapTicks
            target :=
              if t.station = .active then some (3 + t.rank + (t.line.backoff.getD 0).toNat) else none } }) ∧
    (∀ t : State, t.RosterLaw → t.SettingsLaw → ∀ n ∈ t.beginQuiet.line.target, 3 ≤ n ∧ n ≤ 39) ∧
    (s.line.passedOver = true →
      exec (.lineGoesQuiet cells more first) s =
        .next (State.beginQuiet { s with line := { s.line with latched := none } })) ∧
    (s.line.passedOver = false →
      (∀ n : Counters,
        judge s.line.breakNoted cells more = .broken ∧
            n = { s.counters with broken := bump s.counters.broken } ∨
          judge s.line.breakNoted cells more = .crcError ∧
            n = { s.counters with crcErrors := bump s.counters.crcErrors } ∨
          judge s.line.breakNoted cells more = .malformed ∧
            n = { s.counters with malformed := bump s.counters.malformed } →
        exec (.lineGoesQuiet cells more first) s =
          .next (State.beginQuiet { s with line := { s.line with latched := none }, counters := n })) ∧
      (∀ kind f t, judge s.line.breakNoted cells more = .clean kind f →
        t = { s with counters := { s.counters with cleanFrames := bump s.counters.cleanFrames } } →
        (first = true →
          ∃ u, exec (rowOf s.settings.station kind f) t = .next u ∧
            exec (.lineGoesQuiet cells more first) s = .next u.beginQuiet) ∧
        (first = false →
          ∃ u, exec (rowOf s.settings.station kind f) t.beginQuiet = .next u ∧
            exec (.lineGoesQuiet cells more first) s = .next u)))

/-- A quiet count step counts up to 63. The station begins to transmit its head frame when it is ACTIVE,
the line QUIET, the target reached and the queue not empty, and not before; at the stamp point the line
time and sync state of that tick are inserted, and the frame goes out whole. A break that has lasted its 2
gap units is released (R4, R132, R138, R140, R142). That a TRANSMISSION_BEGINS whose moment has not come changes
nothing is the model's choice (log entry 2, DESIGN CHOICE). -/
def Obligations.DeferralAndSending : Prop :=
  ∀ s : State,
    (∀ n, s.line.condition = .quiet → s.line.quietCount = some n → n < 63 →
      s.localReached s.line.nextStep = true →
      exec .quietCountStep s =
        .next
          { s with
            line :=
              { s.line with
                quietCount := some (n + 1)
                nextStep := s.line.nextStep + BitVec.ofNat 32 s.settings.gapTicks } }) ∧
    (∀ n k f rest, s.station = .active → s.line.condition = .quiet → s.line.quietCount = some n →
      s.line.target = some k → s.queue = f :: rest →
      (k ≤ n →
        exec .transmissionBegins s =
          .next
            { s with
              queue := { f with onLine := true } :: rest
              line :=
                { s.line with
                  condition := .sending
                  quietCount := none
                  target := none
                  backoff := none
                  sendStart := s.localTime
                  stamped := none } }) ∧
      (n < k → exec .transmissionBegins s = .next s)) ∧
    (s.station ≠ .active ∨ s.line.condition ≠ .quiet ∨ s.queue = [] ∨ s.line.target = none ∨
        s.line.quietCount = none →
      exec .transmissionBegins s = .next s) ∧
    (s.line.condition = .sending → s.line.stamped = none →
      s.localReached (later s.line.sendStart (2 * s.settings.gapTicks)) = true →
      ∃ t, exec .stampPointOfOwnFrame s = .next t ∧
        t = { s with line := { s.line with stamped := some (s.lineTime, s.sync) } } ∧
        (∀ f, s.frameOnLine = some f →
          s.cellsOnLine = startPattern ∧
          t.cellsOnLine =
            frameCells f.kind.frameKind
              ⟨s.settings.station, f.destination, f.sequence, s.sync, s.lineTime, f.payload⟩)) ∧
    (s.line.condition = .breaking → s.localReached s.line.breakEnd = true →
      exec .breakRelease s = .next { s with line := { s.line with condition := .busy } })

/-- A collision breaks the attempt off with a break of 2 gap units and is counted. The frame stays at its
place with one attempt more, and the backoff is drawn, whatever the draw gives; at its sixth collision it
is abandoned, and if it is the restart reply the restart takes effect (R142, R143, R156). -/
def Obligations.CollisionBreaksOff : Prop :=
  ∀ (s : State) (a b : List TxFrame) (f : TxFrame) (v : LineInterface) (n : Counters),
    s.line.condition = .sending → s.queue = a ++ f :: b → f.onLine = true → (∀ g ∈ a ++ b, g.onLine = false) →
    v =
      { s.line with
        condition := .breaking
        passedOver := true
        stamped := none
        breakEnd := s.localTime + BitVec.ofNat 32 (2 * s.settings.gapTicks) } →
    n = { s.counters with collisions := bump s.counters.collisions } →
    (f.attempts < 5 →
      exec .collision s =
        .next
          { s with
            queue := a ++ { f with attempts := f.attempts + 1, onLine := false } :: b
            line := { v with backoff := some (Config.backoffDraw s.draws) }
            counters := n
            draws := s.draws + 1 }) ∧
    (∀ u,
      u =
        { s with
          queue := a ++ b
          line := { v with backoff := none }
          counters := { n with abandoned := bump s.counters.abandoned } } →
      5 ≤ f.attempts → exec .collision s = .next (if f.restartReply then u.takeRestart else u))

/-- The clean end of the frame on the line removes it, and any STAMP with it, sets the finished flag and
moves the station to its roster's end; the clean end of the restart reply then lets the restart take
effect (R123, R144, R153, R156). -/
def Obligations.CleanEndFinishesFrame : Prop :=
  ∀ (s u : State) (a b : List TxFrame) (f : TxFrame),
    s.line.condition = .sending → s.queue = a ++ f :: b → f.onLine = true → (∀ g ∈ a ++ b, g.onLine = false) →
    s.line.stamped ≠ none →
    s.localReached (later s.line.sendStart ((14 + f.payload.length) * s.settings.gapTicks)) = true →
    u =
      { s with
        roster := s.roster.filter (· != s.settings.station) ++ [s.settings.station]
        queue := (a ++ b).filter (·.kind != .stamp)
        finished := true
        line := { s.line with condition := .busy, passedOver := true, stamped := none } } →
    exec .ownFrameCleanEnd s = .next (if f.restartReply then u.takeRestart else u)

/-! ### Chapter 8: the transmit queue -/

/-- An arriving frame joins behind its class while there is room. In a full queue an answer or a NOTICE
displaces the youngest frame of the highest class above its own that is not on the line, and any other is
lost. Outside ACTIVE every frame is lost, and so is one that arrives after the emptying of an entry into SILENCED
that overtakes its step (R158, log entry 31). Each lost or displaced frame is counted under its own kind, and
nothing else changes (R149 to R151, R157). -/
def Obligations.ArrivalsArePlacedOrLost : Prop :=
  ∀ (s t : State) (kind : TxKind) (destination : Nat) (sequence : BitVec 4) (payload : List Byte)
    (restartReply : Bool) (f : TxFrame),
    s.QueueLaw → t = s.arrive kind destination sequence payload restartReply →
    f = ⟨kind, destination, sequence, payload, s.nextAge, 0, false, restartReply⟩ →
    t = { s with queue := t.queue, nextAge := t.nextAge, counters := t.counters } ∧
    (s.station = .active → s.queue.length < 16 →
      t.counters = s.counters ∧
      ∃ a b, s.queue = a ++ b ∧ t.queue = a ++ f :: b ∧ (∀ g ∈ a, g.kind.cls ≤ kind.cls) ∧
        (∀ g ∈ b, kind.cls < g.kind.cls)) ∧
    (∀ v ∈ s.queue, s.station = .active → s.queue.length = 16 → kind.cls ≤ 1 → v.onLine = false →
      kind.cls < v.kind.cls →
      (∀ g ∈ s.queue, g.onLine = false →
        g.kind.cls < v.kind.cls ∨ (g.kind.cls = v.kind.cls ∧ g.age ≤ v.age)) →
      t.counters = s.counters.countLost v.kind ∧ (∀ g, g ∈ t.queue ↔ g = f ∨ (g ∈ s.queue ∧ g ≠ v)) ∧
        t.queue.length = 16) ∧
    (s.station ≠ .active ∨
        s.queue.length = 16 ∧ (2 ≤ kind.cls ∨ ∀ g ∈ s.queue, g.onLine = false → g.kind.cls ≤ kind.cls) →
      t = { s with counters := s.counters.countLost kind }) ∧
    ∀ (u : State) (age : Nat), u = { s with queueShutFrom := some age } →
      (age ≤ s.nextAge →
        u.arrive kind destination sequence payload restartReply = { u with counters := s.counters.countLost kind }) ∧
      (s.nextAge < age →
        u.arrive kind destination sequence payload restartReply = { t with queueShutFrom := some age })

/-- A settle point clears the finished flag, and in ACTIVE makes a STAMP exactly when the flag was clear
and no STAMP was held, unless the queue is full (R154). In LISTENING it advances the listen count, and at
the listen time the station is ACTIVE with its HELLO queued and a deferral target for a quiet period in
progress (R155, R186, R187). -/
def Obligations.ListenTimeAndStampDuty : Prop :=
  ∀ (order : List SettleAct) (s t : State),
    exec (.settlePoint order) s = .next t → s.settleExpires = true → s.QuietStationLaw → s.queueShutFrom = none →
    t.finished = false ∧
    (s.station = .active → t.station = .active ∧ t.listenCount = s.listenCount ∧
      (s.finished = true ∨ (∃ g ∈ s.queue, g.kind = .stamp) → ∀ g ∈ t.queue, g.kind = .stamp → g ∈ s.queue) ∧
      (s.finished = false → (∀ g ∈ s.queue, g.kind ≠ .stamp) →
        (∃ g ∈ t.queue, g.kind = .stamp ∧ g.destination = 31 ∧ g.payload = []) ∨ 16 ≤ t.queue.length)) ∧
    (s.station = .listening → s.listenCount + 1 < s.settings.listenTime →
      t.station = .listening ∧ t.listenCount = s.listenCount + 1 ∧ t.queue = []) ∧
    (s.station = .listening → s.settings.listenTime ≤ s.listenCount + 1 →
      t.station = .active ∧ t.listenCount = s.listenCount + 1 ∧
      ((∃ g ∈ t.queue, g.kind = .hello ∧ g.destination = 31 ∧ g.payload = []) ∨ 16 ≤ t.queue.length) ∧
      (s.line.condition = .quiet → t.line.target ≠ none)) ∧
    (s.station = .silenced → t.station = .silenced ∧ t.listenCount = s.listenCount ∧ t.queue = [])

/-! ### Chapter 9: commands and answers -/

/-- A command is set aside outside ACTIVE; a repeat of its sender's last command is counted and answered
from the record with the duplicate flag, and not executed; one that fails the payload check is refused
BAD_PARAM with detail 0, recorded and answered (R159, R161 to R163, R50). -/
def Obligations.CommandsAreTakenOnce : Prop :=
  ∀ (s : State) (f : Frame) (i : Instr) (kind : CommandKind) (refused : Bool),
    (i, kind, refused) ∈
      [(.arm f, .arm, (parseArm f.payload).isNone),
        (.cancelByTag f, .cancel, (parseCancelByTag f.payload).isNone),
        (.cancelByChannel f, .cancel, (parseCancelByChannel f.payload).isNone),
        (.setgen f, .setgen, false),
        (.reactInstall f, .react, (parseInstall f.payload).isNone),
        (.reactRemove f, .react, (parseRemove f.payload).isNone),
        (.releaseHold f, .control, (parseReleaseHold f.payload).isNone),
        (.clearCounters f, .control, !clearCountersFits f.payload),
        (.flushSchedule f, .control, (parseFlush f.payload).isNone),
        (.restart f, .control, !restartFits f.payload)] →
    i.wellFormed = true → f.sender ≠ s.settings.station → s.addressed f = true →
    (s.station = .listening ∨ s.station = .silenced →
      ∃ t, exec i s = .next t ∧
        t =
          { s.receive f with
            counters := { s.counters with setAside := bump s.counters.setAside }
            pairs := t.pairs } ∧
        (s.FollowLaw → (∀ p : Fin 4, s.pairs[p].moment ≠ some s.localTime) → t.pairs = s.pairs)) ∧
    (∀ r, s.station = .active → s.repeatOf kind f = some r →
      ∃ t, exec i s = .next t ∧
        t =
          { State.reply kind.frameKind f r.code true r.detail false
              { s.receive f with counters := { s.counters with duplicates := bump s.counters.duplicates } } with
            pairs := t.pairs } ∧
        (s.FollowLaw → (∀ p : Fin 4, s.pairs[p].moment ≠ some s.localTime) → t.pairs = s.pairs)) ∧
    (s.Takes kind f → refused = true →
      ∃ t, exec i s = .next t ∧
        t =
          { State.conclude kind f .badParam 0
              { s.receive f with
                counters :=
                  { s.counters with
                    payloadRefusals := bump s.counters.payloadRefusals
                    armsRefused :=
                      if kind = .arm then bump s.counters.armsRefused else s.counters.armsRefused } } with
            pairs := t.pairs } ∧
        (s.FollowLaw → (∀ p : Fin 4, s.pairs[p].moment ≠ some s.localTime) → t.pairs = s.pairs))

/-- A QUERY for this station is answered by a REPORT of its topic: the topic, the start index, the total,
and as many records from the start index on as the topic allows, in 32 bytes; it changes nothing beyond
the sender's peer entry and the queue. A broadcast one is not answered, and one with an unknown topic is
refused by a REPLY (R160, R169). In LISTENING and SILENCED every QUERY is set aside and counted (R159). -/
def Obligations.QueriesAreReported : Prop :=
  ∀ (s : State) (f : Frame), f.wellFormed .query = true → f.sender ≠ s.settings.station →
    s.addressed f = true →
    (s.station = .listening ∨ s.station = .silenced →
      ∀ i ∈
        [Instr.queryStatus f, .querySchedule f, .queryCaptures f, .queryPeers f, .queryReactions f,
          .queryCounters f, .queryChannels f, .queryUnknownTopic f],
        i.wellFormed = true →
        exec i s =
          .next { s.receive f with counters := { s.counters with setAside := bump s.counters.setAside } }) ∧
    (∀ (i : Instr) (topic per : Nat) (records page : List (List Byte)),
      (i, topic, per, records) ∈
        [(.queryStatus f, 0, 1, statusRecords (s.receive f)),
          (.querySchedule f, 1, 1, scheduleRecords (s.receive f)),
          (.queryCaptures f, 2, 4, captureRecords (s.receive f)),
          (.queryPeers f, 3, 2, peerRecords (s.receive f)),
          (.queryReactions f, 4, 1, slotRecords (s.receive f)),
          (.queryCounters f, 5, 14, counterRecords (s.receive f)),
          (.queryChannels f, 6, 1, channelRecords (s.receive f))] →
      s.station = .active → natAt f.payload 0 = topic → page = (records.drop (natAt f.payload 1)).take per →
      (f.destination = 31 → exec i s = .next (s.receive f)) ∧
      (f.destination ≠ 31 →
        ∃ payload, payload =
            [BitVec.ofNat 8 topic, byteAt f.payload 1, BitVec.ofNat 8 records.length, BitVec.ofNat 8 page.length] ++
              page.flatten ∧
          payload.length ≤ 32 ∧
          exec i s = .next ((s.receive f).arrive .report f.sender f.sequence payload false))) ∧
    (s.station = .active → 6 < natAt f.payload 0 →
      exec (.queryUnknownTopic f) s =
        .next
          (State.reply .query f .badParam false 0 false
            { s.receive f with
              counters := { s.counters with payloadRefusals := bump s.counters.payloadRefusals } }))

/-- CLEAR_COUNTERS sets every counter of the counter index table to 0, changes nothing that is no counter,
and is answered OK with detail 0 (R172, R173). -/
def Obligations.ClearCountersClears : Prop :=
  ∀ (s : State) (f : Frame),
    f.wellFormed .control = true → s.Takes .control f → f.payload = [1] →
    ∃ t, exec (.clearCounters f) s = .next (State.conclude .control f .ok 0 t) ∧
      t = { s.receive f with counters := {}, channels := t.channels, inputs := t.inputs, slots := t.slots } ∧
      (∀ c : Fin 8, t.channels[c] = { s.channels[c] with skipped := 0 }) ∧
      (∀ i : Fin 4, t.inputs[i] = { s.inputs[i] with suppressed := 0 }) ∧
      (∀ i : Fin 24, t.slots[i] = s.slots[i].map fun r => { r with hits := 0 }) ∧
      t.counterList = List.replicate 69 0

/-- An addressed RESTART sets restart-pending and queues the restart reply, in a full queue in the place of
the youngest frame of the highest class above its own that is not on the line (R151), and takes effect at once
where it is lost at its arrival; one taken while restart-pending is set is answered by an ordinary REPLY; a
broadcast one takes effect at once (R156, R174, R175). A reply that meets a queue shut by an entry into SILENCED
is lost without the restart's effect (log entry 31; `DuplicateNumberSilences`). What a RESTART taking effect
leaves, block by block (R191). -/
def Obligations.RestartTakesEffect : Prop :=
  (∀ (s u : State) (f : Frame),
    f.wellFormed .control = true → s.Takes .control f → f.payload = [3] →
    u = (s.receive f).writeRecord f.sender ⟨.control, f.sequence, .ok, 0⟩ →
    (f.destination = 31 → exec (.restart f) s = .next u.takeRestart) ∧
    (f.destination ≠ 31 → s.restartPending = true →
      exec (.restart f) s =
        .next (u.arrive .reply f.sender f.sequence (replyPayload .control f.sequence .ok false 0) false)) ∧
    (∀ v ∈ s.queue, f.destination ≠ 31 → s.restartPending = false → s.QueueLaw → s.queue.length = 16 →
      v.onLine = false → 0 < v.kind.cls →
      (∀ g ∈ s.queue, g.onLine = false →
        g.kind.cls < v.kind.cls ∨ (g.kind.cls = v.kind.cls ∧ g.age ≤ v.age)) →
      exec (.restart f) s =
        .next
          (State.placeFrame
            ⟨.reply, f.sender, f.sequence, replyPayload .control f.sequence .ok false 0, s.nextAge, 0, false, true⟩
            { u with
              restartPending := true
              queue := s.queue.erase v
              counters := s.counters.countLost v.kind })) ∧
    (f.destination ≠ 31 → s.restartPending = false → (∀ g ∈ s.queue, g.restartReply = false) →
      s.queueShutFrom = none →
      (s.queue.length < 16 →
        exec (.restart f) s =
          .next
            (State.placeFrame
              ⟨.reply, f.sender, f.sequence, replyPayload .control f.sequence .ok false 0, s.nextAge, 0, false, true⟩
              { u with restartPending := true })) ∧
      (s.queue.length = 16 → (∀ g ∈ s.queue, g.onLine = false → g.kind.cls = 0) →
        exec (.restart f) s =
          .next
            (State.takeRestart
              { u with counters := { s.counters with lostReplies := bump s.counters.lostReplies } })))) ∧
  ∀ s t : State, t = s.takeRestart →
    t.station = .listening ∧ t.listenCount = 0 ∧ t.restartPending = false ∧ t.schedule = [] ∧ t.queue = [] ∧
    t.finished = false ∧ t.peers = [] ∧ t.roster = [] ∧ t.captureLog = [] ∧ t.driftCount = 0 ∧
    t.lockCount = (if s.inLock then s.lockCount else 0) ∧
    (∀ c : Fin 8, t.channels[c] =
      { s.channels[c] with pulse := none, burst := none, gen := .stopped, hold := some .restart }) ∧
    (s.line.condition = .sending →
      t.line.condition = .breaking ∧ t.line.breakEnd = later s.localTime (2 * s.settings.gapTicks)) ∧
    (s.line.condition ≠ .sending → t.line = { s.line with target := none, backoff := none }) ∧
    t.line.target = none ∧ t.line.backoff = none ∧
    t.counters = { s.counters with pulsesCut := t.counters.pulsesCut, burstsCut := t.counters.burstsCut } ∧
    t.localTime = s.localTime ∧ t.correction = s.correction ∧ t.sync = s.sync ∧ t.settleNext = s.settleNext ∧
    t.inputs = s.inputs ∧ t.markNumber = s.markNumber ∧ t.slots = s.slots ∧ t.settings = s.settings

/-! ### Chapter 10: start-up, configuration and restart -/

/-- Power-on and RESET_N take the station to CONFIGURING from any state, with every block in its initial
state and every pin at rest; local time and the configuration read begin at the release, with no bit of the
image held yet (R180, R181). The model's choices: the levels on the capture inputs are the world's and stay, and the
96 bytes that the configuration memory gives are an operand of the release (log entry 7); the waiting commands and
the draw number stay (log entry 24); a RESET_N_RELEASED with RESET_N not held changes nothing (log entry 33). -/
def Obligations.ResetDiscardsEverything : Prop :=
  ∀ s t : State, t = { State.reset with pending := s.pending, inputPins := s.inputPins, draws := s.draws } →
    exec .powerOn s = .next t ∧ exec .resetNAsserted s = .next t ∧
    (∀ c, t.pin c = false) ∧ t.syncPin = false ∧ t.faultPin = false ∧ t.cfgSelPin = true ∧ t.cfgClkPin = false ∧
    t.drivesLine = false ∧
    (∀ memory : List Byte, memory.length = 96 →
      (s.resetHeld = true →
        exec (.resetNReleased memory) s =
          .next { s with resetHeld := false, reading := true, imageBits := [], cfgMemory := memory }) ∧
      (s.resetHeld = false → exec (.resetNReleased memory) s = .next s))

/-- At the end of the configuration read, 3,168 ticks after the release, the image held is checked, and no
copy of it is kept. A passing image's values take effect and the station is LISTENING: channels at their
initial state, hold-on-loss channels held with cause START, the other enabled pairs through the dead band,
inputs at the levels on their pins as their reference samples, the settle timer started; a failing image
leaves everything as RESET_N did, in CONFIG_FAULT (R77, R79, R84, R181, R184, R185). That the line interface
then stands BUSY with a stretch it passes over until the line goes quiet is the model's reading of R137 for
the start of listening (log entry 9, DEDUCED). -/
def Obligations.ConfigurationReadDecides : Prop :=
  ∀ (s : State) (image : List Byte),
    image.length = 96 → s.imageBits = bytesBits image → s.station = .configuring → s.reading = true →
    s.localTime = 3168 →
    (imagePasses image = false →
      exec .configReadEnd s = .next { s with station := .configFault, reading := false, imageBits := [] }) ∧
    (imagePasses image = true →
      ∃ t, exec .configReadEnd s = .next t ∧
        t =
          { s with
            station := .listening
            listenCount := 0
            restartPending := false
            reading := false
            imageBits := []
            settings := imageSettings image
            settleNext := some (s.localTime + BitVec.ofNat 32 (100000 * natAt image 4))
            line := { s.line with condition := .busy, passedOver := true }
            channels := t.channels
            pairs := t.pairs
            inputs := t.inputs } ∧
        (∀ c : Fin 8, t.channels[c] =
          { Channel.blank with
            latch := t.settings.channels[c].safe
            activeSet := ⟨t.settings.channels[c].defaultPeriod, t.settings.channels[c].defaultHigh⟩
            hold := if t.holdsOnLoss c then some .start else none }) ∧
        (∀ p : Fin 4, t.pairs[p].drive =
          if t.settings.pairs[p].enabled = true ∧ t.holdsOnLoss (evenOf p) = false then
            PairDrive.turnTo t.settings.channels[evenOf p].safe s.localTime t.settings.pairs[p].deadBand
          else ⟨false, false, false, none⟩) ∧
        (∀ i : Fin 4, t.inputs[i] = { s.inputs[i] with level := s.inputPins[i], sampled := true }))

/-- An image that passes has the magic byte, the version, a sum of 0 and legal values; no change of one
byte of it passes; and every step keeps the configured values in force legal, and changes them at the end
of the read and at a reset alone (R52, R83, R182, R183). The legal values are kept from every state of a
station that sends nothing outside ACTIVE (R150, R158). -/
def Obligations.ConfiguredValuesStayLegal : Prop :=
  (∀ image, imagePasses image = true →
    byteAt image 0 = 0xA7 ∧ byteAt image 1 = 1 ∧ image.sum = 0 ∧ (imageSettings image).Legal) ∧
  (∀ (image : List Byte) (k : Nat) (b : Byte), imagePasses image = true → k < image.length →
    byteAt image k ≠ b → imagePasses (image.set k b) = false) ∧
  ∀ s t : State, step s = .next t →
    (s.QuietStationLaw → s.SettingsLaw → t.SettingsLaw) ∧
    (t.settings = s.settings ∨ t.station = .configuring ∨ (s.station = .configuring ∧ t.station = .listening))

/-- The station state changes on the events of R179's table, and on no event in any state not listed for
it. -/
def Obligations.StationStateFollowsTable : Prop :=
  ∀ (i : Instr) (s t : State), exec i s = .next t → s.QuietStationLaw → t.station ≠ s.station →
    ((i = .powerOn ∨ i = .resetNAsserted) ∧ t.station = .configuring) ∨
    (i = .configReadEnd ∧ s.station = .configuring ∧
      t.station = if imagePasses (bitsBytes s.imageBits) then .listening else .configFault) ∨
    (∃ order, i = .settlePoint order ∧ s.station = .listening ∧ s.settings.listenTime ≤ s.listenCount + 1 ∧
      t.station = .active) ∨
    (∃ f, s.handsOn i = some f ∧ f.sender = s.settings.station ∧
      (s.station = .listening ∨ s.station = .active) ∧ t.station = .silenced) ∨
    (s.station = .active ∧ t.station = .listening ∧
      ((∃ f, f.sender ≠ s.settings.station ∧ natAt f.payload 0 = 3 ∧
          (i = .restart f ∨
            ∃ cells more first, i = .lineGoesQuiet cells more first ∧ s.line.receiving = true ∧
              judge s.line.breakNoted cells more = .clean .control f)) ∨
        ((i = .collision ∨ i = .ownFrameCleanEnd) ∧ ∃ g ∈ s.queue, g.onLine = true ∧ g.restartReply = true)))

/-- Every step keeps the laws of configuration, of a station that does not send, of the transmit queue
and of the roster; and, from a state that meets the law of configuration, the law of the inputs (R84, R93)
and the law of the configuration loader (R181). In that law, the tick at which each bit is taken rests on the
phase of CFG_CLK (log entry 8, DEDUCED), and the memory on the model's choice of an operand (log entry 7). -/
def Obligations.StepsKeepStationLaws : Prop :=
  ∀ s t : State, step s = .next t → s.ConfigurationLaw →
    (s.QuietStationLaw → s.QueueLaw → s.RosterLaw →
      t.ConfigurationLaw ∧ t.QuietStationLaw ∧ t.QueueLaw ∧ t.RosterLaw) ∧
    (s.InputLaw → t.InputLaw) ∧ (s.LoaderLaw → t.LoaderLaw)

/-- What the outputs show: CO pins low before configuration and the drive with its inversion after it (R78),
the drive by R55's order: the safe value of a held channel; of an enabled pair, what its pair controller
drives; of any other channel its pulse, its burst, its generator's phase, its latch. SYNC high in lock (R20),
FAULT high in CONFIG_FAULT and SILENCED (R192). The line released but for the halves of the frame being sent,
idle and then dominant for a 1 and the reverse for a 0, and a break (R130, R140 to R142). -/
def Obligations.PinsShowState : Prop :=
  ∀ s : State,
    (∀ c : Fin 8,
      (s.station = .configuring ∨ s.station = .configFault → s.pin c = false) ∧
      (s.station = .listening ∨ s.station = .active ∨ s.station = .silenced →
        s.pin c = (s.drive c ^^ s.settings.channels[c].invert)) ∧
      (s.isHeld c = true → s.drive c = s.settings.channels[c].safe) ∧
      (s.isHeld c = false → s.isPaired c = false →
        (∀ p, s.channels[c].pulse = some p → s.drive c = p.level) ∧
        (∀ b, s.channels[c].pulse = none → s.channels[c].burst = some b → s.drive c = b.activeHalf) ∧
        (s.channels[c].pulse = none → s.channels[c].burst = none →
          (s.channels[c].gen ≠ .stopped → s.drive c = s.channels[c].phaseHigh) ∧
          (s.channels[c].gen = .stopped → s.drive c = s.channels[c].latch)))) ∧
    (∀ p : Fin 4, s.settings.pairs[p].enabled = true → s.channels[evenOf p].hold = none →
      s.drive (evenOf p) = s.pairs[p].drive.even ∧ s.drive (oddOf p) = s.pairs[p].drive.odd) ∧
    (s.syncPin = true ↔ s.sync = .locked ∨ s.sync = .adrift) ∧
    (s.syncPin = false ↔ s.sync = .alone ∨ s.sync = .acquiring) ∧
    (s.ConfigurationLaw → s.station = .configuring ∨ s.station = .configFault → s.syncPin = false) ∧
    (s.faultPin = true ↔ s.station = .configFault ∨ s.station = .silenced) ∧
    [SyncState.alone, .acquiring, .locked, .adrift].map syncCode = [0, 1, 2, 3] ∧
    (s.line.condition = .breaking → s.drivesLine = true) ∧
    (s.line.condition = .off ∨ s.line.condition = .quiet ∨ s.line.condition = .busy → s.drivesLine = false) ∧
    (∀ n, s.line.condition = .sending →
      n = forward s.line.sendStart s.localTime * 2 ^ s.settings.rateCode / 5 →
      (∀ b, s.cellsOnLine[n / 2]? = some b → s.drivesLine = if n % 2 = 0 then !b else b) ∧
      (s.cellsOnLine.length ≤ n / 2 → s.drivesLine = false))

/-! ### Chapter 11: frame formats -/

/-- A frame on the line is read back as the frame it is: the cells of a well-formed frame of any kind,
heard without a break, are judged clean, with every field as it was sent (R131, R133, R135, R193 to
R196). -/
def Obligations.FrameRoundTrip : Prop :=
  ∀ (kind : FrameKind) (f : Frame), f.wellFormed kind = true →
    (frameCells kind f).length = 112 + 8 * f.payload.length ∧ judge false (frameCells kind f) false = .clean kind f

/-- One wrong cell anywhere in a frame keeps it from being judged clean (R134, R195), and so does anything
that follows its end pattern, a cell or activity that is no cell, or a break heard in its stretch (R133). -/
def Obligations.WrongCellIsNeverClean : Prop :=
  ∀ (kind kind' : FrameKind) (f f' : Frame) (k : Nat) (b breakNoted more : Bool) (tail : List Bool),
    f.wellFormed kind = true →
    ((frameCells kind f)[k]? = some b →
      judge breakNoted ((frameCells kind f).set k (!b)) more ≠ .clean kind' f') ∧
    (breakNoted = true ∨ more = true ∨ tail ≠ [] → judge breakNoted (frameCells kind f ++ tail) more = .broken)
end

