-- ==== Sys2Proof/Laws/Lists.lean ====
section
/-! SUPPORT. What the list operations of the schedule, the queue, the peer table and the roster do, said
once. -/

namespace Sys2Proof.Machine

/-! ### The schedule -/

/-- An entry inserted is added, and nothing leaves. -/
theorem insertEntry_perm (now : Time) (e : Entry) (l : List Entry) : (insertEntry now e l).Perm (e :: l) := by
  induction l with
  | nil => exact .refl _
  | cons x rest ih =>
    unfold insertEntry
    split
    · exact (ih.cons x).trans (.swap e x rest)
    · exact .refl _

/-- The entry inserted and those held before are the entries held after. -/
@[simp] theorem mem_insertEntry (now : Time) (e x : Entry) (l : List Entry) :
    x ∈ insertEntry now e l ↔ x = e ∨ x ∈ l := by
  rw [(insertEntry_perm now e l).mem_iff, List.mem_cons]

/-- An insertion adds one entry. -/
@[simp] theorem length_insertEntry (now : Time) (e : Entry) (l : List Entry) :
    (insertEntry now e l).length = l.length + 1 := (insertEntry_perm now e l).length_eq

/-- An insertion keeps schedule order. -/
theorem insertEntry_sorted (now : Time) (e : Entry) (l : List Entry)
    (h : l.Pairwise fun a b => a.place now ≤ b.place now) :
    (insertEntry now e l).Pairwise fun a b => a.place now ≤ b.place now := by
  induction l with
  | nil => exact List.pairwise_singleton ..
  | cons x rest ih =>
    obtain ⟨hx, hr⟩ := List.pairwise_cons.mp h
    unfold insertEntry
    split <;> rename_i hle
    · refine List.pairwise_cons.mpr ⟨fun y hy => ?_, ih hr⟩
      rcases (mem_insertEntry ..).mp hy with rfl | hy
      · exact hle
      · exact hx y hy
    · refine List.pairwise_cons.mpr ⟨fun y hy => ?_, h⟩
      rcases List.mem_cons.mp hy with rfl | hy
      · omega
      · have := hx y hy; omega

/-! ### The transmit queue -/

/-- A frame inserted is added, and nothing leaves. -/
theorem insertFrame_perm (f : TxFrame) (l : List TxFrame) : (insertFrame f l).Perm (f :: l) := by
  induction l with
  | nil => exact .refl _
  | cons x rest ih =>
    unfold insertFrame
    split
    · exact (ih.cons x).trans (.swap f x rest)
    · exact .refl _

/-- The frame inserted and those held before are the frames held after. -/
@[simp] theorem mem_insertFrame (f g : TxFrame) (l : List TxFrame) : g ∈ insertFrame f l ↔ g = f ∨ g ∈ l := by
  rw [(insertFrame_perm f l).mem_iff, List.mem_cons]

/-- An insertion adds one frame. -/
@[simp] theorem length_insertFrame (f : TxFrame) (l : List TxFrame) : (insertFrame f l).length = l.length + 1 :=
  (insertFrame_perm f l).length_eq

/-- The head of a queue takes the line, and the frames behind it stay. -/
@[simp] theorem putHeadOnLine_cons (f : TxFrame) (l : List TxFrame) :
    putHeadOnLine (f :: l) = { f with onLine := true } :: l := rfl

/-- A victim is a frame held, not on the line, of a class above the arriving frame's (R151). -/
theorem mem_of_victim {cls : Nat} {l : List TxFrame} {v : TxFrame} (h : victim cls l = some v) :
    v ∈ l ∧ v.onLine = false ∧ cls < v.kind.cls := by
  have hv := List.mem_of_getLast? h
  simpa [and_assoc] using hv

/-- There is no victim exactly when every frame not on the line is of the arriving frame's class or
lower (R151). -/
theorem victim_eq_none_iff {cls : Nat} {l : List TxFrame} :
    victim cls l = none ↔ ∀ g ∈ l, g.onLine = false → g.kind.cls ≤ cls := by
  simp [victim]

/-! ### Peers and the roster -/

/-- The members of a roster after a move to the end. -/
@[simp] theorem mem_moveToEnd (n station : Nat) (l : List Nat) : n ∈ moveToEnd station l ↔ n = station ∨ n ∈ l := by
  by_cases h : n = station <;> simp [moveToEnd, h]

/-- A move to the end keeps each member once. -/
theorem nodup_moveToEnd {l : List Nat} (station : Nat) (h : l.Nodup) : (moveToEnd station l).Nodup := by
  refine List.nodup_append.mpr ⟨h.filter _, by simp, ?_⟩
  intro a ha b hb
  simp_all

/-- A move to the end puts the station last. -/
@[simp] theorem getLast?_moveToEnd (station : Nat) (l : List Nat) : (moveToEnd station l).getLast? = some station := by
  simp [moveToEnd]

/-- The stations of the peer table after a refresh: those before, and the sender if it is new. -/
theorem stations_refreshPeer (station : Nat) (sample : Time) (reported : SyncState) (l : List Peer) :
    (refreshPeer station sample reported l).map (·.station) =
      if l.any (·.station == station) then l.map (·.station) else l.map (·.station) ++ [station] := by
  unfold refreshPeer
  split
  · rw [List.map_map]
    refine List.map_congr_left fun p _ => ?_
    simp only [Function.comp_apply]
    split <;> rfl
  · simp

/-- A refreshed entry keeps its command record and its station. -/
@[simp] theorem Peer.refresh_record (sample : Time) (reported : SyncState) (p : Peer) :
    (p.refresh sample reported).record = p.record := rfl

@[simp] theorem Peer.refresh_station (sample : Time) (reported : SyncState) (p : Peer) :
    (p.refresh sample reported).station = p.station := rfl

/-! ### Counters and moments -/

/-- A counter advances by one until it stops at 65,535 (R22). -/
theorem toNat_bump (k : Word16) : (bump k).toNat = min (k.toNat + 1) 65535 := by
  simp only [bump, bumpBy, BitVec.toNat_ofNat]
  omega

/-- Every moment is reached when it is the present. -/
@[simp] theorem isReached_self (now : Time) : isReached now now = true := by simp [isReached, forward]

end Sys2Proof.Machine
end

