-- ==== Sys2Proof/Laws/State.lean ====
section
/-! SUPPORT. The fields of State after each of its elementary updates: one lemma per field, by rfl. -/

namespace Sys2Proof.Machine

variable (s : State)

/-! ### State.setChannel -/

section

variable (c : Fin 8) (ch : Channel)

@[simp] theorem State.setChannel_pending : (s.setChannel c ch).pending = s.pending := rfl
@[simp] theorem State.setChannel_station : (s.setChannel c ch).station = s.station := rfl
@[simp] theorem State.setChannel_listenCount : (s.setChannel c ch).listenCount = s.listenCount := rfl
@[simp] theorem State.setChannel_restartPending : (s.setChannel c ch).restartPending = s.restartPending := rfl
@[simp] theorem State.setChannel_resetHeld : (s.setChannel c ch).resetHeld = s.resetHeld := rfl
@[simp] theorem State.setChannel_reading : (s.setChannel c ch).reading = s.reading := rfl
@[simp] theorem State.setChannel_imageBits : (s.setChannel c ch).imageBits = s.imageBits := rfl
@[simp] theorem State.setChannel_cfgMemory : (s.setChannel c ch).cfgMemory = s.cfgMemory := rfl
@[simp] theorem State.setChannel_settings : (s.setChannel c ch).settings = s.settings := rfl
@[simp] theorem State.setChannel_localTime : (s.setChannel c ch).localTime = s.localTime := rfl
@[simp] theorem State.setChannel_correction : (s.setChannel c ch).correction = s.correction := rfl
@[simp] theorem State.setChannel_sync : (s.setChannel c ch).sync = s.sync := rfl
@[simp] theorem State.setChannel_lockCount : (s.setChannel c ch).lockCount = s.lockCount := rfl
@[simp] theorem State.setChannel_driftCount : (s.setChannel c ch).driftCount = s.driftCount := rfl
@[simp] theorem State.setChannel_lastDelta : (s.setChannel c ch).lastDelta = s.lastDelta := rfl
@[simp] theorem State.setChannel_settleNext : (s.setChannel c ch).settleNext = s.settleNext := rfl
@[simp] theorem State.setChannel_schedule : (s.setChannel c ch).schedule = s.schedule := rfl
@[simp] theorem State.setChannel_channels : (s.setChannel c ch).channels = s.channels.set c ch := rfl
@[simp] theorem State.setChannel_pairs : (s.setChannel c ch).pairs = s.pairs := rfl
@[simp] theorem State.setChannel_inputs : (s.setChannel c ch).inputs = s.inputs := rfl
@[simp] theorem State.setChannel_inputPins : (s.setChannel c ch).inputPins = s.inputPins := rfl
@[simp] theorem State.setChannel_captureLog : (s.setChannel c ch).captureLog = s.captureLog := rfl
@[simp] theorem State.setChannel_markNumber : (s.setChannel c ch).markNumber = s.markNumber := rfl
@[simp] theorem State.setChannel_slots : (s.setChannel c ch).slots = s.slots := rfl
@[simp] theorem State.setChannel_peers : (s.setChannel c ch).peers = s.peers := rfl
@[simp] theorem State.setChannel_roster : (s.setChannel c ch).roster = s.roster := rfl
@[simp] theorem State.setChannel_line : (s.setChannel c ch).line = s.line := rfl
@[simp] theorem State.setChannel_queue : (s.setChannel c ch).queue = s.queue := rfl
@[simp] theorem State.setChannel_finished : (s.setChannel c ch).finished = s.finished := rfl
@[simp] theorem State.setChannel_nextAge : (s.setChannel c ch).nextAge = s.nextAge := rfl
@[simp] theorem State.setChannel_queueShutFrom : (s.setChannel c ch).queueShutFrom = s.queueShutFrom := rfl
@[simp] theorem State.setChannel_counters : (s.setChannel c ch).counters = s.counters := rfl
@[simp] theorem State.setChannel_draws : (s.setChannel c ch).draws = s.draws := rfl

end

/-! ### State.setSlot -/

section

variable (i : Fin 24) (r : Option Reaction)

@[simp] theorem State.setSlot_pending : (s.setSlot i r).pending = s.pending := rfl
@[simp] theorem State.setSlot_station : (s.setSlot i r).station = s.station := rfl
@[simp] theorem State.setSlot_listenCount : (s.setSlot i r).listenCount = s.listenCount := rfl
@[simp] theorem State.setSlot_restartPending : (s.setSlot i r).restartPending = s.restartPending := rfl
@[simp] theorem State.setSlot_resetHeld : (s.setSlot i r).resetHeld = s.resetHeld := rfl
@[simp] theorem State.setSlot_reading : (s.setSlot i r).reading = s.reading := rfl
@[simp] theorem State.setSlot_imageBits : (s.setSlot i r).imageBits = s.imageBits := rfl
@[simp] theorem State.setSlot_cfgMemory : (s.setSlot i r).cfgMemory = s.cfgMemory := rfl
@[simp] theorem State.setSlot_settings : (s.setSlot i r).settings = s.settings := rfl
@[simp] theorem State.setSlot_localTime : (s.setSlot i r).localTime = s.localTime := rfl
@[simp] theorem State.setSlot_correction : (s.setSlot i r).correction = s.correction := rfl
@[simp] theorem State.setSlot_sync : (s.setSlot i r).sync = s.sync := rfl
@[simp] theorem State.setSlot_lockCount : (s.setSlot i r).lockCount = s.lockCount := rfl
@[simp] theorem State.setSlot_driftCount : (s.setSlot i r).driftCount = s.driftCount := rfl
@[simp] theorem State.setSlot_lastDelta : (s.setSlot i r).lastDelta = s.lastDelta := rfl
@[simp] theorem State.setSlot_settleNext : (s.setSlot i r).settleNext = s.settleNext := rfl
@[simp] theorem State.setSlot_schedule : (s.setSlot i r).schedule = s.schedule := rfl
@[simp] theorem State.setSlot_channels : (s.setSlot i r).channels = s.channels := rfl
@[simp] theorem State.setSlot_pairs : (s.setSlot i r).pairs = s.pairs := rfl
@[simp] theorem State.setSlot_inputs : (s.setSlot i r).inputs = s.inputs := rfl
@[simp] theorem State.setSlot_inputPins : (s.setSlot i r).inputPins = s.inputPins := rfl
@[simp] theorem State.setSlot_captureLog : (s.setSlot i r).captureLog = s.captureLog := rfl
@[simp] theorem State.setSlot_markNumber : (s.setSlot i r).markNumber = s.markNumber := rfl
@[simp] theorem State.setSlot_slots : (s.setSlot i r).slots = s.slots.set i r := rfl
@[simp] theorem State.setSlot_peers : (s.setSlot i r).peers = s.peers := rfl
@[simp] theorem State.setSlot_roster : (s.setSlot i r).roster = s.roster := rfl
@[simp] theorem State.setSlot_line : (s.setSlot i r).line = s.line := rfl
@[simp] theorem State.setSlot_queue : (s.setSlot i r).queue = s.queue := rfl
@[simp] theorem State.setSlot_finished : (s.setSlot i r).finished = s.finished := rfl
@[simp] theorem State.setSlot_nextAge : (s.setSlot i r).nextAge = s.nextAge := rfl
@[simp] theorem State.setSlot_queueShutFrom : (s.setSlot i r).queueShutFrom = s.queueShutFrom := rfl
@[simp] theorem State.setSlot_counters : (s.setSlot i r).counters = s.counters := rfl
@[simp] theorem State.setSlot_draws : (s.setSlot i r).draws = s.draws := rfl

end

/-! ### State.setInput -/

section

variable (i : Fin 4) (v : CaptureInput)

@[simp] theorem State.setInput_pending : (s.setInput i v).pending = s.pending := rfl
@[simp] theorem State.setInput_station : (s.setInput i v).station = s.station := rfl
@[simp] theorem State.setInput_listenCount : (s.setInput i v).listenCount = s.listenCount := rfl
@[simp] theorem State.setInput_restartPending : (s.setInput i v).restartPending = s.restartPending := rfl
@[simp] theorem State.setInput_resetHeld : (s.setInput i v).resetHeld = s.resetHeld := rfl
@[simp] theorem State.setInput_reading : (s.setInput i v).reading = s.reading := rfl
@[simp] theorem State.setInput_imageBits : (s.setInput i v).imageBits = s.imageBits := rfl
@[simp] theorem State.setInput_cfgMemory : (s.setInput i v).cfgMemory = s.cfgMemory := rfl
@[simp] theorem State.setInput_settings : (s.setInput i v).settings = s.settings := rfl
@[simp] theorem State.setInput_localTime : (s.setInput i v).localTime = s.localTime := rfl
@[simp] theorem State.setInput_correction : (s.setInput i v).correction = s.correction := rfl
@[simp] theorem State.setInput_sync : (s.setInput i v).sync = s.sync := rfl
@[simp] theorem State.setInput_lockCount : (s.setInput i v).lockCount = s.lockCount := rfl
@[simp] theorem State.setInput_driftCount : (s.setInput i v).driftCount = s.driftCount := rfl
@[simp] theorem State.setInput_lastDelta : (s.setInput i v).lastDelta = s.lastDelta := rfl
@[simp] theorem State.setInput_settleNext : (s.setInput i v).settleNext = s.settleNext := rfl
@[simp] theorem State.setInput_schedule : (s.setInput i v).schedule = s.schedule := rfl
@[simp] theorem State.setInput_channels : (s.setInput i v).channels = s.channels := rfl
@[simp] theorem State.setInput_pairs : (s.setInput i v).pairs = s.pairs := rfl
@[simp] theorem State.setInput_inputs : (s.setInput i v).inputs = s.inputs.set i v := rfl
@[simp] theorem State.setInput_inputPins : (s.setInput i v).inputPins = s.inputPins := rfl
@[simp] theorem State.setInput_captureLog : (s.setInput i v).captureLog = s.captureLog := rfl
@[simp] theorem State.setInput_markNumber : (s.setInput i v).markNumber = s.markNumber := rfl
@[simp] theorem State.setInput_slots : (s.setInput i v).slots = s.slots := rfl
@[simp] theorem State.setInput_peers : (s.setInput i v).peers = s.peers := rfl
@[simp] theorem State.setInput_roster : (s.setInput i v).roster = s.roster := rfl
@[simp] theorem State.setInput_line : (s.setInput i v).line = s.line := rfl
@[simp] theorem State.setInput_queue : (s.setInput i v).queue = s.queue := rfl
@[simp] theorem State.setInput_finished : (s.setInput i v).finished = s.finished := rfl
@[simp] theorem State.setInput_nextAge : (s.setInput i v).nextAge = s.nextAge := rfl
@[simp] theorem State.setInput_queueShutFrom : (s.setInput i v).queueShutFrom = s.queueShutFrom := rfl
@[simp] theorem State.setInput_counters : (s.setInput i v).counters = s.counters := rfl
@[simp] theorem State.setInput_draws : (s.setInput i v).draws = s.draws := rfl

end

/-! ### State.placeFrame -/

section

variable (f : TxFrame)

@[simp] theorem State.placeFrame_pending : (s.placeFrame f).pending = s.pending := rfl
@[simp] theorem State.placeFrame_station : (s.placeFrame f).station = s.station := rfl
@[simp] theorem State.placeFrame_listenCount : (s.placeFrame f).listenCount = s.listenCount := rfl
@[simp] theorem State.placeFrame_restartPending : (s.placeFrame f).restartPending = s.restartPending := rfl
@[simp] theorem State.placeFrame_resetHeld : (s.placeFrame f).resetHeld = s.resetHeld := rfl
@[simp] theorem State.placeFrame_reading : (s.placeFrame f).reading = s.reading := rfl
@[simp] theorem State.placeFrame_imageBits : (s.placeFrame f).imageBits = s.imageBits := rfl
@[simp] theorem State.placeFrame_cfgMemory : (s.placeFrame f).cfgMemory = s.cfgMemory := rfl
@[simp] theorem State.placeFrame_settings : (s.placeFrame f).settings = s.settings := rfl
@[simp] theorem State.placeFrame_localTime : (s.placeFrame f).localTime = s.localTime := rfl
@[simp] theorem State.placeFrame_correction : (s.placeFrame f).correction = s.correction := rfl
@[simp] theorem State.placeFrame_sync : (s.placeFrame f).sync = s.sync := rfl
@[simp] theorem State.placeFrame_lockCount : (s.placeFrame f).lockCount = s.lockCount := rfl
@[simp] theorem State.placeFrame_driftCount : (s.placeFrame f).driftCount = s.driftCount := rfl
@[simp] theorem State.placeFrame_lastDelta : (s.placeFrame f).lastDelta = s.lastDelta := rfl
@[simp] theorem State.placeFrame_settleNext : (s.placeFrame f).settleNext = s.settleNext := rfl
@[simp] theorem State.placeFrame_schedule : (s.placeFrame f).schedule = s.schedule := rfl
@[simp] theorem State.placeFrame_channels : (s.placeFrame f).channels = s.channels := rfl
@[simp] theorem State.placeFrame_pairs : (s.placeFrame f).pairs = s.pairs := rfl
@[simp] theorem State.placeFrame_inputs : (s.placeFrame f).inputs = s.inputs := rfl
@[simp] theorem State.placeFrame_inputPins : (s.placeFrame f).inputPins = s.inputPins := rfl
@[simp] theorem State.placeFrame_captureLog : (s.placeFrame f).captureLog = s.captureLog := rfl
@[simp] theorem State.placeFrame_markNumber : (s.placeFrame f).markNumber = s.markNumber := rfl
@[simp] theorem State.placeFrame_slots : (s.placeFrame f).slots = s.slots := rfl
@[simp] theorem State.placeFrame_peers : (s.placeFrame f).peers = s.peers := rfl
@[simp] theorem State.placeFrame_roster : (s.placeFrame f).roster = s.roster := rfl
@[simp] theorem State.placeFrame_line : (s.placeFrame f).line = s.line := rfl
@[simp] theorem State.placeFrame_queue : (s.placeFrame f).queue = insertFrame f s.queue := rfl
@[simp] theorem State.placeFrame_finished : (s.placeFrame f).finished = s.finished := rfl
@[simp] theorem State.placeFrame_nextAge : (s.placeFrame f).nextAge = s.nextAge + 1 := rfl
@[simp] theorem State.placeFrame_queueShutFrom : (s.placeFrame f).queueShutFrom = s.queueShutFrom := rfl
@[simp] theorem State.placeFrame_counters : (s.placeFrame f).counters = s.counters := rfl
@[simp] theorem State.placeFrame_draws : (s.placeFrame f).draws = s.draws := rfl

end

/-! ### State.loseFrame -/

section

variable (k : TxKind)

@[simp] theorem State.loseFrame_pending : (s.loseFrame k).pending = s.pending := rfl
@[simp] theorem State.loseFrame_station : (s.loseFrame k).station = s.station := rfl
@[simp] theorem State.loseFrame_listenCount : (s.loseFrame k).listenCount = s.listenCount := rfl
@[simp] theorem State.loseFrame_restartPending : (s.loseFrame k).restartPending = s.restartPending := rfl
@[simp] theorem State.loseFrame_resetHeld : (s.loseFrame k).resetHeld = s.resetHeld := rfl
@[simp] theorem State.loseFrame_reading : (s.loseFrame k).reading = s.reading := rfl
@[simp] theorem State.loseFrame_imageBits : (s.loseFrame k).imageBits = s.imageBits := rfl
@[simp] theorem State.loseFrame_cfgMemory : (s.loseFrame k).cfgMemory = s.cfgMemory := rfl
@[simp] theorem State.loseFrame_settings : (s.loseFrame k).settings = s.settings := rfl
@[simp] theorem State.loseFrame_localTime : (s.loseFrame k).localTime = s.localTime := rfl
@[simp] theorem State.loseFrame_correction : (s.loseFrame k).correction = s.correction := rfl
@[simp] theorem State.loseFrame_sync : (s.loseFrame k).sync = s.sync := rfl
@[simp] theorem State.loseFrame_lockCount : (s.loseFrame k).lockCount = s.lockCount := rfl
@[simp] theorem State.loseFrame_driftCount : (s.loseFrame k).driftCount = s.driftCount := rfl
@[simp] theorem State.loseFrame_lastDelta : (s.loseFrame k).lastDelta = s.lastDelta := rfl
@[simp] theorem State.loseFrame_settleNext : (s.loseFrame k).settleNext = s.settleNext := rfl
@[simp] theorem State.loseFrame_schedule : (s.loseFrame k).schedule = s.schedule := rfl
@[simp] theorem State.loseFrame_channels : (s.loseFrame k).channels = s.channels := rfl
@[simp] theorem State.loseFrame_pairs : (s.loseFrame k).pairs = s.pairs := rfl
@[simp] theorem State.loseFrame_inputs : (s.loseFrame k).inputs = s.inputs := rfl
@[simp] theorem State.loseFrame_inputPins : (s.loseFrame k).inputPins = s.inputPins := rfl
@[simp] theorem State.loseFrame_captureLog : (s.loseFrame k).captureLog = s.captureLog := rfl
@[simp] theorem State.loseFrame_markNumber : (s.loseFrame k).markNumber = s.markNumber := rfl
@[simp] theorem State.loseFrame_slots : (s.loseFrame k).slots = s.slots := rfl
@[simp] theorem State.loseFrame_peers : (s.loseFrame k).peers = s.peers := rfl
@[simp] theorem State.loseFrame_roster : (s.loseFrame k).roster = s.roster := rfl
@[simp] theorem State.loseFrame_line : (s.loseFrame k).line = s.line := rfl
@[simp] theorem State.loseFrame_queue : (s.loseFrame k).queue = s.queue := rfl
@[simp] theorem State.loseFrame_finished : (s.loseFrame k).finished = s.finished := rfl
@[simp] theorem State.loseFrame_nextAge : (s.loseFrame k).nextAge = s.nextAge := rfl
@[simp] theorem State.loseFrame_queueShutFrom : (s.loseFrame k).queueShutFrom = s.queueShutFrom := rfl
@[simp] theorem State.loseFrame_counters : (s.loseFrame k).counters = s.counters.countLost k := rfl
@[simp] theorem State.loseFrame_draws : (s.loseFrame k).draws = s.draws := rfl

end

/-! ### State.insert -/

section

variable (e : Entry)

@[simp] theorem State.insert_pending : (s.insert e).pending = s.pending := rfl
@[simp] theorem State.insert_station : (s.insert e).station = s.station := rfl
@[simp] theorem State.insert_listenCount : (s.insert e).listenCount = s.listenCount := rfl
@[simp] theorem State.insert_restartPending : (s.insert e).restartPending = s.restartPending := rfl
@[simp] theorem State.insert_resetHeld : (s.insert e).resetHeld = s.resetHeld := rfl
@[simp] theorem State.insert_reading : (s.insert e).reading = s.reading := rfl
@[simp] theorem State.insert_imageBits : (s.insert e).imageBits = s.imageBits := rfl
@[simp] theorem State.insert_cfgMemory : (s.insert e).cfgMemory = s.cfgMemory := rfl
@[simp] theorem State.insert_settings : (s.insert e).settings = s.settings := rfl
@[simp] theorem State.insert_localTime : (s.insert e).localTime = s.localTime := rfl
@[simp] theorem State.insert_correction : (s.insert e).correction = s.correction := rfl
@[simp] theorem State.insert_sync : (s.insert e).sync = s.sync := rfl
@[simp] theorem State.insert_lockCount : (s.insert e).lockCount = s.lockCount := rfl
@[simp] theorem State.insert_driftCount : (s.insert e).driftCount = s.driftCount := rfl
@[simp] theorem State.insert_lastDelta : (s.insert e).lastDelta = s.lastDelta := rfl
@[simp] theorem State.insert_settleNext : (s.insert e).settleNext = s.settleNext := rfl
@[simp] theorem State.insert_schedule : (s.insert e).schedule = insertEntry s.lineTime e s.schedule := rfl
@[simp] theorem State.insert_channels : (s.insert e).channels = s.channels := rfl
@[simp] theorem State.insert_pairs : (s.insert e).pairs = s.pairs := rfl
@[simp] theorem State.insert_inputs : (s.insert e).inputs = s.inputs := rfl
@[simp] theorem State.insert_inputPins : (s.insert e).inputPins = s.inputPins := rfl
@[simp] theorem State.insert_captureLog : (s.insert e).captureLog = s.captureLog := rfl
@[simp] theorem State.insert_markNumber : (s.insert e).markNumber = s.markNumber := rfl
@[simp] theorem State.insert_slots : (s.insert e).slots = s.slots := rfl
@[simp] theorem State.insert_peers : (s.insert e).peers = s.peers := rfl
@[simp] theorem State.insert_roster : (s.insert e).roster = s.roster := rfl
@[simp] theorem State.insert_line : (s.insert e).line = s.line := rfl
@[simp] theorem State.insert_queue : (s.insert e).queue = s.queue := rfl
@[simp] theorem State.insert_finished : (s.insert e).finished = s.finished := rfl
@[simp] theorem State.insert_nextAge : (s.insert e).nextAge = s.nextAge := rfl
@[simp] theorem State.insert_queueShutFrom : (s.insert e).queueShutFrom = s.queueShutFrom := rfl
@[simp] theorem State.insert_counters : (s.insert e).counters = s.counters := rfl
@[simp] theorem State.insert_draws : (s.insert e).draws = s.draws := rfl

end

/-! ### State.count -/

section

variable (f : Counters → Counters)

@[simp] theorem State.count_pending : (s.count f).pending = s.pending := rfl
@[simp] theorem State.count_station : (s.count f).station = s.station := rfl
@[simp] theorem State.count_listenCount : (s.count f).listenCount = s.listenCount := rfl
@[simp] theorem State.count_restartPending : (s.count f).restartPending = s.restartPending := rfl
@[simp] theorem State.count_resetHeld : (s.count f).resetHeld = s.resetHeld := rfl
@[simp] theorem State.count_reading : (s.count f).reading = s.reading := rfl
@[simp] theorem State.count_imageBits : (s.count f).imageBits = s.imageBits := rfl
@[simp] theorem State.count_cfgMemory : (s.count f).cfgMemory = s.cfgMemory := rfl
@[simp] theorem State.count_settings : (s.count f).settings = s.settings := rfl
@[simp] theorem State.count_localTime : (s.count f).localTime = s.localTime := rfl
@[simp] theorem State.count_correction : (s.count f).correction = s.correction := rfl
@[simp] theorem State.count_sync : (s.count f).sync = s.sync := rfl
@[simp] theorem State.count_lockCount : (s.count f).lockCount = s.lockCount := rfl
@[simp] theorem State.count_driftCount : (s.count f).driftCount = s.driftCount := rfl
@[simp] theorem State.count_lastDelta : (s.count f).lastDelta = s.lastDelta := rfl
@[simp] theorem State.count_settleNext : (s.count f).settleNext = s.settleNext := rfl
@[simp] theorem State.count_schedule : (s.count f).schedule = s.schedule := rfl
@[simp] theorem State.count_channels : (s.count f).channels = s.channels := rfl
@[simp] theorem State.count_pairs : (s.count f).pairs = s.pairs := rfl
@[simp] theorem State.count_inputs : (s.count f).inputs = s.inputs := rfl
@[simp] theorem State.count_inputPins : (s.count f).inputPins = s.inputPins := rfl
@[simp] theorem State.count_captureLog : (s.count f).captureLog = s.captureLog := rfl
@[simp] theorem State.count_markNumber : (s.count f).markNumber = s.markNumber := rfl
@[simp] theorem State.count_slots : (s.count f).slots = s.slots := rfl
@[simp] theorem State.count_peers : (s.count f).peers = s.peers := rfl
@[simp] theorem State.count_roster : (s.count f).roster = s.roster := rfl
@[simp] theorem State.count_line : (s.count f).line = s.line := rfl
@[simp] theorem State.count_queue : (s.count f).queue = s.queue := rfl
@[simp] theorem State.count_finished : (s.count f).finished = s.finished := rfl
@[simp] theorem State.count_nextAge : (s.count f).nextAge = s.nextAge := rfl
@[simp] theorem State.count_queueShutFrom : (s.count f).queueShutFrom = s.queueShutFrom := rfl
@[simp] theorem State.count_counters : (s.count f).counters = f s.counters := rfl
@[simp] theorem State.count_draws : (s.count f).draws = s.draws := rfl

end

/-! ### State.emptyQueue -/

section

@[simp] theorem State.emptyQueue_pending : s.emptyQueue.pending = s.pending := rfl
@[simp] theorem State.emptyQueue_station : s.emptyQueue.station = s.station := rfl
@[simp] theorem State.emptyQueue_listenCount : s.emptyQueue.listenCount = s.listenCount := rfl
@[simp] theorem State.emptyQueue_restartPending : s.emptyQueue.restartPending = s.restartPending := rfl
@[simp] theorem State.emptyQueue_resetHeld : s.emptyQueue.resetHeld = s.resetHeld := rfl
@[simp] theorem State.emptyQueue_reading : s.emptyQueue.reading = s.reading := rfl
@[simp] theorem State.emptyQueue_imageBits : s.emptyQueue.imageBits = s.imageBits := rfl
@[simp] theorem State.emptyQueue_cfgMemory : s.emptyQueue.cfgMemory = s.cfgMemory := rfl
@[simp] theorem State.emptyQueue_settings : s.emptyQueue.settings = s.settings := rfl
@[simp] theorem State.emptyQueue_localTime : s.emptyQueue.localTime = s.localTime := rfl
@[simp] theorem State.emptyQueue_correction : s.emptyQueue.correction = s.correction := rfl
@[simp] theorem State.emptyQueue_sync : s.emptyQueue.sync = s.sync := rfl
@[simp] theorem State.emptyQueue_lockCount : s.emptyQueue.lockCount = s.lockCount := rfl
@[simp] theorem State.emptyQueue_driftCount : s.emptyQueue.driftCount = s.driftCount := rfl
@[simp] theorem State.emptyQueue_lastDelta : s.emptyQueue.lastDelta = s.lastDelta := rfl
@[simp] theorem State.emptyQueue_settleNext : s.emptyQueue.settleNext = s.settleNext := rfl
@[simp] theorem State.emptyQueue_schedule : s.emptyQueue.schedule = s.schedule := rfl
@[simp] theorem State.emptyQueue_channels : s.emptyQueue.channels = s.channels := rfl
@[simp] theorem State.emptyQueue_pairs : s.emptyQueue.pairs = s.pairs := rfl
@[simp] theorem State.emptyQueue_inputs : s.emptyQueue.inputs = s.inputs := rfl
@[simp] theorem State.emptyQueue_inputPins : s.emptyQueue.inputPins = s.inputPins := rfl
@[simp] theorem State.emptyQueue_captureLog : s.emptyQueue.captureLog = s.captureLog := rfl
@[simp] theorem State.emptyQueue_markNumber : s.emptyQueue.markNumber = s.markNumber := rfl
@[simp] theorem State.emptyQueue_slots : s.emptyQueue.slots = s.slots := rfl
@[simp] theorem State.emptyQueue_peers : s.emptyQueue.peers = s.peers := rfl
@[simp] theorem State.emptyQueue_roster : s.emptyQueue.roster = s.roster := rfl
@[simp] theorem State.emptyQueue_line : s.emptyQueue.line = s.line := rfl
@[simp] theorem State.emptyQueue_queue : s.emptyQueue.queue = [] := rfl
@[simp] theorem State.emptyQueue_finished : s.emptyQueue.finished = false := rfl
@[simp] theorem State.emptyQueue_nextAge : s.emptyQueue.nextAge = s.nextAge := rfl
@[simp] theorem State.emptyQueue_queueShutFrom : s.emptyQueue.queueShutFrom = s.queueShutFrom := rfl
@[simp] theorem State.emptyQueue_counters : s.emptyQueue.counters = s.counters := rfl
@[simp] theorem State.emptyQueue_draws : s.emptyQueue.draws = s.draws := rfl

end

/-! ### State.writeRecord -/

section

variable (n : Nat) (r : CommandRecord)

@[simp] theorem State.writeRecord_pending : (s.writeRecord n r).pending = s.pending := rfl
@[simp] theorem State.writeRecord_station : (s.writeRecord n r).station = s.station := rfl
@[simp] theorem State.writeRecord_listenCount : (s.writeRecord n r).listenCount = s.listenCount := rfl
@[simp] theorem State.writeRecord_restartPending : (s.writeRecord n r).restartPending = s.restartPending := rfl
@[simp] theorem State.writeRecord_resetHeld : (s.writeRecord n r).resetHeld = s.resetHeld := rfl
@[simp] theorem State.writeRecord_reading : (s.writeRecord n r).reading = s.reading := rfl
@[simp] theorem State.writeRecord_imageBits : (s.writeRecord n r).imageBits = s.imageBits := rfl
@[simp] theorem State.writeRecord_cfgMemory : (s.writeRecord n r).cfgMemory = s.cfgMemory := rfl
@[simp] theorem State.writeRecord_settings : (s.writeRecord n r).settings = s.settings := rfl
@[simp] theorem State.writeRecord_localTime : (s.writeRecord n r).localTime = s.localTime := rfl
@[simp] theorem State.writeRecord_correction : (s.writeRecord n r).correction = s.correction := rfl
@[simp] theorem State.writeRecord_sync : (s.writeRecord n r).sync = s.sync := rfl
@[simp] theorem State.writeRecord_lockCount : (s.writeRecord n r).lockCount = s.lockCount := rfl
@[simp] theorem State.writeRecord_driftCount : (s.writeRecord n r).driftCount = s.driftCount := rfl
@[simp] theorem State.writeRecord_lastDelta : (s.writeRecord n r).lastDelta = s.lastDelta := rfl
@[simp] theorem State.writeRecord_settleNext : (s.writeRecord n r).settleNext = s.settleNext := rfl
@[simp] theorem State.writeRecord_schedule : (s.writeRecord n r).schedule = s.schedule := rfl
@[simp] theorem State.writeRecord_channels : (s.writeRecord n r).channels = s.channels := rfl
@[simp] theorem State.writeRecord_pairs : (s.writeRecord n r).pairs = s.pairs := rfl
@[simp] theorem State.writeRecord_inputs : (s.writeRecord n r).inputs = s.inputs := rfl
@[simp] theorem State.writeRecord_inputPins : (s.writeRecord n r).inputPins = s.inputPins := rfl
@[simp] theorem State.writeRecord_captureLog : (s.writeRecord n r).captureLog = s.captureLog := rfl
@[simp] theorem State.writeRecord_markNumber : (s.writeRecord n r).markNumber = s.markNumber := rfl
@[simp] theorem State.writeRecord_slots : (s.writeRecord n r).slots = s.slots := rfl
@[simp] theorem State.writeRecord_peers : (s.writeRecord n r).peers = s.peers.map fun p => if p.station == n then { p with record := some r } else p := rfl
@[simp] theorem State.writeRecord_roster : (s.writeRecord n r).roster = s.roster := rfl
@[simp] theorem State.writeRecord_line : (s.writeRecord n r).line = s.line := rfl
@[simp] theorem State.writeRecord_queue : (s.writeRecord n r).queue = s.queue := rfl
@[simp] theorem State.writeRecord_finished : (s.writeRecord n r).finished = s.finished := rfl
@[simp] theorem State.writeRecord_nextAge : (s.writeRecord n r).nextAge = s.nextAge := rfl
@[simp] theorem State.writeRecord_queueShutFrom : (s.writeRecord n r).queueShutFrom = s.queueShutFrom := rfl
@[simp] theorem State.writeRecord_counters : (s.writeRecord n r).counters = s.counters := rfl
@[simp] theorem State.writeRecord_draws : (s.writeRecord n r).draws = s.draws := rfl

end

/-! ### State.followPairs -/

section

@[simp] theorem State.followPairs_pending : s.followPairs.pending = s.pending := rfl
@[simp] theorem State.followPairs_station : s.followPairs.station = s.station := rfl
@[simp] theorem State.followPairs_listenCount : s.followPairs.listenCount = s.listenCount := rfl
@[simp] theorem State.followPairs_restartPending : s.followPairs.restartPending = s.restartPending := rfl
@[simp] theorem State.followPairs_resetHeld : s.followPairs.resetHeld = s.resetHeld := rfl
@[simp] theorem State.followPairs_reading : s.followPairs.reading = s.reading := rfl
@[simp] theorem State.followPairs_imageBits : s.followPairs.imageBits = s.imageBits := rfl
@[simp] theorem State.followPairs_cfgMemory : s.followPairs.cfgMemory = s.cfgMemory := rfl
@[simp] theorem State.followPairs_settings : s.followPairs.settings = s.settings := rfl
@[simp] theorem State.followPairs_localTime : s.followPairs.localTime = s.localTime := rfl
@[simp] theorem State.followPairs_correction : s.followPairs.correction = s.correction := rfl
@[simp] theorem State.followPairs_sync : s.followPairs.sync = s.sync := rfl
@[simp] theorem State.followPairs_lockCount : s.followPairs.lockCount = s.lockCount := rfl
@[simp] theorem State.followPairs_driftCount : s.followPairs.driftCount = s.driftCount := rfl
@[simp] theorem State.followPairs_lastDelta : s.followPairs.lastDelta = s.lastDelta := rfl
@[simp] theorem State.followPairs_settleNext : s.followPairs.settleNext = s.settleNext := rfl
@[simp] theorem State.followPairs_schedule : s.followPairs.schedule = s.schedule := rfl
@[simp] theorem State.followPairs_channels : s.followPairs.channels = s.channels := rfl
@[simp] theorem State.followPairs_inputs : s.followPairs.inputs = s.inputs := rfl
@[simp] theorem State.followPairs_inputPins : s.followPairs.inputPins = s.inputPins := rfl
@[simp] theorem State.followPairs_captureLog : s.followPairs.captureLog = s.captureLog := rfl
@[simp] theorem State.followPairs_markNumber : s.followPairs.markNumber = s.markNumber := rfl
@[simp] theorem State.followPairs_slots : s.followPairs.slots = s.slots := rfl
@[simp] theorem State.followPairs_peers : s.followPairs.peers = s.peers := rfl
@[simp] theorem State.followPairs_roster : s.followPairs.roster = s.roster := rfl
@[simp] theorem State.followPairs_line : s.followPairs.line = s.line := rfl
@[simp] theorem State.followPairs_queue : s.followPairs.queue = s.queue := rfl
@[simp] theorem State.followPairs_finished : s.followPairs.finished = s.finished := rfl
@[simp] theorem State.followPairs_nextAge : s.followPairs.nextAge = s.nextAge := rfl
@[simp] theorem State.followPairs_queueShutFrom : s.followPairs.queueShutFrom = s.queueShutFrom := rfl
@[simp] theorem State.followPairs_counters : s.followPairs.counters = s.counters := rfl
@[simp] theorem State.followPairs_draws : s.followPairs.draws = s.draws := rfl

end

end Sys2Proof.Machine
end

