-- ==== Sys2Proof/Laws/Touches.lean ====
section
/-! SUPPORT. What each shared operation can touch: its answer is the state before it with the named
fields changed, and no other. A frame of any field not named follows by taking the equation apart. -/

namespace Sys2Proof.Machine

/-! ### Transmit queue and notices -/

/-- A frame that arrives touches the queue, the arrival number and the counters. -/
theorem State.arrive_touches (kind : TxKind) (d : Nat) (q : BitVec 4) (p : List Byte) (r : Bool) (s : State) :
    ∃ queue age counters,
      s.arrive kind d q p r = { s with queue := queue, nextAge := age, counters := counters } := by
  unfold State.arrive
  repeat' split
  all_goals exact ⟨_, _, _, rfl⟩

/-- A NOTICE touches what an arrival touches. -/
theorem State.notice_touches (e : Entry) (o : NoticeOutcome) (s : State) :
    ∃ queue age counters,
      s.notice e o = { s with queue := queue, nextAge := age, counters := counters } := by
  unfold State.notice
  split
  · exact ⟨_, _, _, rfl⟩
  · exact State.arrive_touches ..

/-- A REPLY touches what an arrival touches. -/
theorem State.reply_touches (k : FrameKind) (f : Frame) (c : ResultCode) (dup : Bool) (d : Word16) (r : Bool)
    (s : State) :
    ∃ queue age counters,
      s.reply k f c dup d r = { s with queue := queue, nextAge := age, counters := counters } := by
  unfold State.reply
  split
  · exact ⟨_, _, _, rfl⟩
  · exact State.arrive_touches ..

/-- A drop touches what its NOTICE touches. -/
theorem State.drop_touches (e : Entry) (s : State) :
    ∃ queue age counters, s.drop e = { s with queue := queue, nextAge := age, counters := counters } := by
  obtain ⟨q, n, k, h⟩ := State.notice_touches e .dropped
    { s with counters := { s.counters with dropped := bump s.counters.dropped } }
  exact ⟨q, n, k, h⟩

/-! ### Schedule and channels -/

/-- An action touches the channels and the counters. -/
theorem State.takeAction_touches (c : Fin 8) (a : Action) (p : Word16) (s : State) :
    ∃ channels counters, s.takeAction c a p = { s with channels := channels, counters := counters } := by
  cases a <;> simp only [State.takeAction]
  case pulse => split <;> exact ⟨_, _, rfl⟩
  case burst => split <;> exact ⟨_, _, rfl⟩
  all_goals exact ⟨_, _, rfl⟩

/-- What follows a firing touches the schedule and what a NOTICE touches. -/
theorem State.afterFiring_touches (e : Entry) (s : State) :
    ∃ schedule queue age counters,
      s.afterFiring e =
        { s with schedule := schedule, queue := queue, nextAge := age, counters := counters } := by
  unfold State.afterFiring
  simp only
  split
  · exact ⟨_, _, _, _, rfl⟩
  · rw [State.spent]
    obtain ⟨q, n, k, h⟩ := State.notice_touches e (if e.heldAtLast then .held else .done)
      { s with
        counters :=
          { s.counters with
            repeatsSkipped := bumpBy (e.afterFiring s.lineTime).2 s.counters.repeatsSkipped } }
    exact ⟨_, q, n, k, h⟩

/-- A firing touches the schedule, the channels, and what a NOTICE touches. -/
theorem State.fire_touches (e : Entry) (s : State) :
    ∃ schedule channels queue age counters,
      s.fire e =
        { s with
          schedule := schedule
          channels := channels
          queue := queue
          nextAge := age
          counters := counters } := by
  unfold State.fire
  split
  · obtain ⟨q, n, k, h⟩ := State.drop_touches e s
    exact ⟨_, _, q, n, k, h⟩
  · simp only
    obtain ⟨ch, k, h⟩ := State.takeAction_touches e.channel e.action e.param
      { s with counters := { s.counters with fired := bump s.counters.fired } }
    rw [h]
    obtain ⟨sch, q, n, k', h'⟩ := State.afterFiring_touches
      { e with heldAtLast := s.firingHeld e.channel e.action } { s with channels := ch, counters := k }
    exact ⟨sch, ch, q, n, k', h'⟩

/-- Firings one after another touch what one touches. -/
theorem State.foldl_fire_touches (l : List Entry) (s : State) :
    ∃ schedule channels queue age counters,
      l.foldl (fun t e => t.fire e) s =
        { s with
          schedule := schedule
          channels := channels
          queue := queue
          nextAge := age
          counters := counters } := by
  induction l generalizing s with
  | nil => exact ⟨_, _, _, _, _, rfl⟩
  | cons e rest ih =>
    obtain ⟨sch, ch, q, n, k, h⟩ := State.fire_touches e s
    obtain ⟨sch', ch', q', n', k', h'⟩ := ih (s.fire e)
    refine ⟨sch', ch', q', n', k', ?_⟩
    rw [List.foldl_cons, h', h]

/-- Drops one after another touch what one touches. -/
theorem State.foldl_drop_touches (l : List Entry) (s : State) :
    ∃ queue age counters,
      l.foldl (fun t e => t.drop e) s = { s with queue := queue, nextAge := age, counters := counters } := by
  induction l generalizing s with
  | nil => exact ⟨_, _, _, rfl⟩
  | cons e rest ih =>
    obtain ⟨q, n, k, h⟩ := State.drop_touches e s
    obtain ⟨q', n', k', h'⟩ := ih (s.drop e)
    refine ⟨q', n', k', ?_⟩
    rw [List.foldl_cons, h', h]

/-- NOTICEs one after another touch what one touches. -/
theorem State.foldl_notice_touches (l : List Entry) (o : NoticeOutcome) (s : State) :
    ∃ queue age counters,
      l.foldl (fun t e => t.notice e o) s = { s with queue := queue, nextAge := age, counters := counters } := by
  induction l generalizing s with
  | nil => exact ⟨_, _, _, rfl⟩
  | cons e rest ih =>
    obtain ⟨q, n, k, h⟩ := State.notice_touches e o s
    obtain ⟨q', n', k', h'⟩ := ih (s.notice e o)
    refine ⟨q', n', k', ?_⟩
    rw [List.foldl_cons, h', h]

/-- The firing of all reached entries touches what one firing touches. -/
theorem State.fireReached_touches (s : State) :
    ∃ schedule channels queue age counters,
      s.fireReached =
        { s with
          schedule := schedule
          channels := channels
          queue := queue
          nextAge := age
          counters := counters } := by
  obtain ⟨sch, ch, q, n, k, h⟩ := State.foldl_fire_touches
    (s.schedule.filter fun e => s.lineReached e.due)
    { s with schedule := s.schedule.filter fun e => !s.lineReached e.due }
  exact ⟨sch, ch, q, n, k, h⟩

/-- The reach-limit drop touches the schedule and what a NOTICE touches. The schedule keeps the
entries within the bound of R27, in order. -/
theorem State.dropBeyondReach_touches (s : State) :
    ∃ queue age counters,
      s.dropBeyondReach =
        { s with
          schedule := s.schedule.filter fun e => !s.beyondReach e
          queue := queue
          nextAge := age
          counters := counters } :=
  State.foldl_drop_touches (s.schedule.filter s.beyondReach)
    { s with schedule := s.schedule.filter fun e => !s.beyondReach e }

/-- A removal touches the schedule, which keeps every other entry in order, and what a NOTICE
touches. -/
theorem State.removeEntries_touches (gone : Entry → Bool) (o : NoticeOutcome) (s : State) :
    ∃ queue age counters,
      s.removeEntries gone o =
        { s with
          schedule := s.schedule.filter fun e => !gone e
          queue := queue
          nextAge := age
          counters := counters } :=
  State.foldl_notice_touches (s.schedule.filter gone) o
    { s with schedule := s.schedule.filter fun e => !gone e }

/-- An entry armed touches what a firing touches. -/
theorem State.armEntry_touches (e : Entry) (s : State) :
    ∃ schedule channels queue age counters,
      s.armEntry e =
        { s with
          schedule := schedule
          channels := channels
          queue := queue
          nextAge := age
          counters := counters } := by
  unfold State.armEntry
  split
  · obtain ⟨sch, ch, q, n, k, h⟩ := State.fireReached_touches (s.insert e)
    exact ⟨sch, ch, q, n, k, h⟩
  · exact ⟨_, _, _, _, _, rfl⟩

/-- A replacing arm touches what a firing touches. -/
theorem State.replace_armEntry_touches (origin : Nat) (tag : Word16) (e : Entry) (s : State) :
    ∃ schedule channels queue age counters,
      (s.replaceEntry origin tag).armEntry e =
        { s with
          schedule := schedule
          channels := channels
          queue := queue
          nextAge := age
          counters := counters } := by
  obtain ⟨q, n, k, h⟩ := State.removeEntries_touches (·.named origin tag) .replaced s
  obtain ⟨sch, ch, q', n', k', h'⟩ := State.armEntry_touches e (s.replaceEntry origin tag)
  refine ⟨sch, ch, q', n', k', ?_⟩
  rw [h', State.replaceEntry, h]

/-- A checked arm touches what a firing touches. -/
theorem State.armChecked_touches (e : Entry) (s : State) :
    ∃ schedule channels queue age counters,
      (s.armChecked e).1 =
        { s with
          schedule := schedule
          channels := channels
          queue := queue
          nextAge := age
          counters := counters } := by
  unfold State.armChecked
  split
  · exact State.replace_armEntry_touches ..
  · split
    · exact ⟨_, _, _, _, _, rfl⟩
    · exact State.armEntry_touches ..

/-- An ARM touches what a firing touches. -/
theorem State.arm_touches (origin : Nat) (r : ArmRequest) (s : State) :
    ∃ schedule channels queue age counters,
      (s.arm origin r).1 =
        { s with
          schedule := schedule
          channels := channels
          queue := queue
          nextAge := age
          counters := counters } := by
  unfold State.arm
  split
  · exact ⟨_, _, _, _, _, rfl⟩
  · repeat' split
    all_goals
      first
      | exact State.armChecked_touches ..
      | exact ⟨_, _, _, _, _, rfl⟩

/-- The schedule's step touches what a firing touches. -/
theorem State.stepSchedule_touches (change : Int) (s : State) :
    ∃ schedule channels queue age counters,
      s.stepSchedule change =
        { s with
          schedule := schedule
          channels := channels
          queue := queue
          nextAge := age
          counters := counters } := by
  unfold State.stepSchedule
  split
  · obtain ⟨sch, ch, q, n, k, h⟩ := State.fireReached_touches s
    rw [h]
    obtain ⟨q', n', k', h'⟩ := State.dropBeyondReach_touches
      { s with schedule := sch, channels := ch, queue := q, nextAge := n, counters := k }
    exact ⟨_, ch, q', n', k', h'⟩
  · split
    · obtain ⟨q', n', k', h'⟩ := State.dropBeyondReach_touches s
      exact ⟨_, _, q', n', k', h'⟩
    · exact ⟨_, _, _, _, _, rfl⟩

/-- The generators' step touches the channels and the counters. -/
theorem State.stepGenerators_touches (change : Int) (s : State) :
    ∃ channels counters, s.stepGenerators change = { s with channels := channels, counters := counters } := by
  unfold State.stepGenerators
  split
  · exact ⟨_, _, rfl⟩
  · split <;> exact ⟨_, _, rfl⟩

/-- Entering hold touches the channels, the pairs and the counters. -/
theorem State.enterHold_touches (cause : HoldCause) (named : Fin 8 → Bool) (s : State) :
    ∃ channels pairs counters,
      s.enterHold cause named = { s with channels := channels, pairs := pairs, counters := counters } :=
  ⟨_, _, _, rfl⟩

/-- A SETGEN touches the channels. -/
theorem State.setgen_touches (r : SetgenRequest) (s : State) :
    ∃ channels, (s.setgen r).1 = { s with channels := channels } := by
  unfold State.setgen
  split
  · simp only
    split
    · exact ⟨_, rfl⟩
    · split
      · exact ⟨_, rfl⟩
      · split <;> exact ⟨_, rfl⟩
  · exact ⟨_, rfl⟩

/-! ### Reactions and captures -/

/-- An INSTALL touches the slots. -/
theorem State.install_touches (n : Nat) (r : InstallRequest) (s : State) :
    ∃ slots, (s.install n r).1 = { s with slots := slots } := by
  unfold State.install
  split
  · simp only
    split
    · exact ⟨_, rfl⟩
    · split
      · exact ⟨_, rfl⟩
      · split <;> exact ⟨_, rfl⟩
  · exact ⟨_, rfl⟩

/-- A REMOVE touches the slots. -/
theorem State.removeReaction_touches (n : Nat) (s : State) :
    ∃ slots, (s.removeReaction n).1 = { s with slots := slots } := by
  unfold State.removeReaction
  split
  · simp only
    split <;> exact ⟨_, rfl⟩
  · exact ⟨_, rfl⟩

/-- A reaction arm touches what a firing touches. -/
theorem State.armReaction_touches (r : Reaction) (i : Fin 24) (due : Time) (s : State) :
    ∃ schedule channels queue age counters,
      (s.armReaction r i due).1 =
        { s with
          schedule := schedule
          channels := channels
          queue := queue
          nextAge := age
          counters := counters } := by
  unfold State.armReaction
  simp only
  split
  · split
    · exact State.replace_armEntry_touches ..
    · exact ⟨_, _, _, _, _, rfl⟩
  · split
    · exact ⟨_, _, _, _, _, rfl⟩
    · exact State.armEntry_touches ..

/-- A match touches what a firing touches. -/
theorem State.runMatch_touches (m : Mark) (r : Reaction) (i : Fin 24) (s : State) :
    ∃ schedule channels queue age counters,
      (s.runMatch m r i).1 =
        { s with
          schedule := schedule
          channels := channels
          queue := queue
          nextAge := age
          counters := counters } := by
  unfold State.runMatch
  simp only
  repeat' split
  all_goals
    first
    | exact State.armReaction_touches ..
    | exact ⟨_, _, _, _, _, rfl⟩

/-- A slot taking a mark touches its slot and what a firing touches. -/
theorem State.markSlot_touches (m : Mark) (i : Fin 24) (s : State) :
    ∃ slots schedule channels queue age counters,
      s.markSlot m i =
        { s with
          slots := slots
          schedule := schedule
          channels := channels
          queue := queue
          nextAge := age
          counters := counters } := by
  unfold State.markSlot
  split
  · exact ⟨_, _, _, _, _, _, rfl⟩
  · rename_i r _
    split
    · obtain ⟨sch, ch, q, n, k, h⟩ := State.runMatch_touches m r i s
      simp only [h]
      exact ⟨_, _, _, _, _, _, rfl⟩
    · exact ⟨_, _, _, _, _, _, rfl⟩

/-- A mark touches the slots and what a firing touches. -/
theorem State.takeMark_touches (m : Mark) (s : State) :
    ∃ slots schedule channels queue age counters,
      s.takeMark m =
        { s with
          slots := slots
          schedule := schedule
          channels := channels
          queue := queue
          nextAge := age
          counters := counters } := by
  unfold State.takeMark
  generalize List.finRange 24 = l
  induction l generalizing s with
  | nil => exact ⟨_, _, _, _, _, _, rfl⟩
  | cons i rest ih =>
    obtain ⟨sl, sch, ch, q, n, k, h⟩ := State.markSlot_touches m i s
    obtain ⟨sl', sch', ch', q', n', k', h'⟩ := ih (s.markSlot m i)
    refine ⟨sl', sch', ch', q', n', k', ?_⟩
    rw [List.foldl_cons, h', h]

/-- Publishing a MARK touches what an arrival touches. -/
theorem State.publishMark_touches (r : CaptureRecord) (s : State) :
    ∃ queue age counters,
      s.publishMark r = { s with queue := queue, nextAge := age, counters := counters } := by
  unfold State.publishMark
  split
  · exact State.arrive_touches ..
  · exact ⟨_, _, _, rfl⟩

/-- Distributing a capture touches what a mark touches. -/
theorem State.distribute_touches (r : CaptureRecord) (first : Bool) (s : State) :
    ∃ slots schedule channels queue age counters,
      s.distribute r first =
        { s with
          slots := slots
          schedule := schedule
          channels := channels
          queue := queue
          nextAge := age
          counters := counters } := by
  unfold State.distribute State.handLocalMark
  split
  · split
    · obtain ⟨q, n, k, h⟩ := State.publishMark_touches r s
      rw [h]
      obtain ⟨sl, sch, ch, q', n', k', h'⟩ := State.takeMark_touches
        { source := s.settings.station, input := r.input, edge := r.edge, time := r.time, number := r.number, sync := r.sync }
        { s with queue := q, nextAge := n, counters := k }
      exact ⟨sl, sch, ch, q', n', k', h'⟩
    · obtain ⟨sl, sch, ch, q', n', k', h'⟩ := State.takeMark_touches
        { source := s.settings.station, input := r.input, edge := r.edge, time := r.time, number := r.number, sync := r.sync } s
      rw [h']
      obtain ⟨q, n, k, h⟩ := State.publishMark_touches r
        { s with slots := sl, schedule := sch, channels := ch, queue := q', nextAge := n', counters := k' }
      exact ⟨sl, sch, ch, q, n, k, h⟩
  · exact State.takeMark_touches ..
  all_goals exact ⟨_, _, _, _, _, _, rfl⟩

/-- A capture touches the log, the mark number and what a mark touches. -/
theorem State.capture_touches (i : Fin 4) (e : Edge) (first : Bool) (s : State) :
    ∃ slots schedule channels queue age counters,
      s.capture i e first =
        { s with
          captureLog := (s.logCapture (s.captureRecord i e)).captureLog
          markNumber := s.markNumber + 1
          slots := slots
          schedule := schedule
          channels := channels
          queue := queue
          nextAge := age
          counters := counters } := by
  obtain ⟨sl, sch, ch, q, n, k, h⟩ := State.distribute_touches (s.captureRecord i e) first
    (s.logCapture (s.captureRecord i e))
  exact ⟨sl, sch, ch, q, n, k, h⟩

/-- An edge of interest touches its input and what a capture touches. -/
theorem State.edgeOfInterest_touches (i : Fin 4) (e : Edge) (first : Bool) (s : State) :
    ∃ inputs log number slots schedule channels queue age counters,
      s.edgeOfInterest i e first =
        { s with
          inputs := inputs
          captureLog := log
          markNumber := number
          slots := slots
          schedule := schedule
          channels := channels
          queue := queue
          nextAge := age
          counters := counters } := by
  unfold State.edgeOfInterest
  split
  · exact ⟨_, _, _, _, _, _, _, _, _, rfl⟩
  · split
    · obtain ⟨sl, sch, ch, q, n, k, h⟩ := State.capture_touches i e first (s.openHoldOff i)
      exact ⟨_, _, _, sl, sch, ch, q, n, k, h⟩
    · exact ⟨_, _, _, _, _, _, _, _, _, rfl⟩

/-! ### Roster, line and station -/

/-- A clean frame of a peer touches the peer table, the roster, the line interface and the draws. -/
theorem State.receive_touches (f : Frame) (s : State) :
    ∃ peers roster line draws,
      s.receive f = { s with peers := peers, roster := roster, line := line, draws := draws } :=
  ⟨_, _, _, _, rfl⟩

/-- Activation touches the station state, the roster, the line interface and what an arrival
touches. -/
theorem State.activate_touches (s : State) :
    ∃ line queue age counters,
      s.activate =
        { s with
          station := .active
          roster := moveToEnd s.settings.station s.roster
          line := line
          queue := queue
          nextAge := age
          counters := counters } := by
  unfold State.activate
  obtain ⟨q, n, k, h⟩ := State.arrive_touches .hello 31 0 [] false
    { s with station := .active, roster := moveToEnd s.settings.station s.roster }
  simp only [h]
  split <;> exact ⟨_, _, _, _, rfl⟩

/-- The listen count touches station control and what an activation touches. -/
theorem State.countListen_touches (s : State) :
    ∃ station count roster line queue age counters,
      s.countListen =
        { s with
          station := station
          listenCount := count
          roster := roster
          line := line
          queue := queue
          nextAge := age
          counters := counters } := by
  unfold State.countListen
  split
  · simp only
    split
    · obtain ⟨l, q, n, k, h⟩ := State.activate_touches { s with listenCount := s.listenCount + 1 }
      exact ⟨_, _, _, l, q, n, k, h⟩
    · exact ⟨_, _, _, _, _, _, _, rfl⟩
  · exact ⟨_, _, _, _, _, _, _, rfl⟩

/-- Stamp duty touches the queue and what an arrival touches. -/
theorem State.stampDuty_touches (s : State) :
    ∃ queue age counters,
      s.stampDuty = { s with queue := queue, finished := false, nextAge := age, counters := counters } := by
  unfold State.stampDuty
  simp only
  split
  · obtain ⟨q, n, k, h⟩ := State.arrive_touches .stamp 31 0 [] false s
    rw [h]
    exact ⟨_, _, _, rfl⟩
  · exact ⟨_, _, _, rfl⟩

/-- One block's act at a settle point. -/
theorem State.settleAct_touches (news : SettleNews) (a : SettleAct) (s : State) :
    ∃ station count schedule channels pairs peers roster line queue finished age counters,
      s.settleAct news a =
        { s with
          station := station
          listenCount := count
          schedule := schedule
          channels := channels
          pairs := pairs
          peers := peers
          roster := roster
          line := line
          queue := queue
          finished := finished
          nextAge := age
          counters := counters } := by
  cases a <;> simp only [State.settleAct]
  case agePeers => exact ⟨_, _, _, _, _, _, _, _, _, _, _, _, rfl⟩
  case stampDuty =>
    obtain ⟨q, n, k, h⟩ := s.stampDuty_touches
    exact ⟨_, _, _, _, _, _, _, _, q, _, n, k, h⟩
  case listenCount =>
    obtain ⟨st, c, r, l, q, n, k, h⟩ := s.countListen_touches
    exact ⟨st, c, _, _, _, _, r, l, q, _, n, k, h⟩
  case hold => split <;> exact ⟨_, _, _, _, _, _, _, _, _, _, _, _, rfl⟩
  case generators =>
    obtain ⟨ch, k, h⟩ := s.stepGenerators_touches news.change
    exact ⟨_, _, _, ch, _, _, _, _, _, _, _, k, h⟩
  case schedule =>
    obtain ⟨sch, ch, q, n, k, h⟩ := s.stepSchedule_touches news.change
    exact ⟨_, _, sch, ch, _, _, _, _, q, _, n, k, h⟩

/-- The acts of a settle point, one after another. -/
theorem State.foldl_settleAct_touches (news : SettleNews) (order : List SettleAct) (s : State) :
    ∃ station count schedule channels pairs peers roster line queue finished age counters,
      order.foldl (fun t a => t.settleAct news a) s =
        { s with
          station := station
          listenCount := count
          schedule := schedule
          channels := channels
          pairs := pairs
          peers := peers
          roster := roster
          line := line
          queue := queue
          finished := finished
          nextAge := age
          counters := counters } := by
  induction order generalizing s with
  | nil => exact ⟨_, _, _, _, _, _, _, _, _, _, _, _, rfl⟩
  | cons a rest ih =>
    obtain ⟨x1, x2, x3, x4, x5, x6, x7, x8, x9, x10, x11, x12, h⟩ := s.settleAct_touches news a
    obtain ⟨y1, y2, y3, y4, y5, y6, y7, y8, y9, y10, y11, y12, h'⟩ := ih (s.settleAct news a)
    refine ⟨y1, y2, y3, y4, y5, y6, y7, y8, y9, y10, y11, y12, ?_⟩
    rw [List.foldl_cons, h', h]

/-- A settle point: what the line time unit writes, and what the blocks' acts can touch. -/
theorem State.settle_touches (order : List SettleAct) (s : State) :
    ∃ station count schedule channels pairs peers roster line queue finished age counters,
      s.settle order =
        { s.settleUnit with
          station := station
          listenCount := count
          schedule := schedule
          channels := channels
          pairs := pairs
          peers := peers
          roster := roster
          line := line
          queue := queue
          finished := finished
          nextAge := age
          counters := counters } := by
  obtain ⟨y1, y2, y3, y4, y5, y6, y7, y8, y9, y10, y11, y12, h⟩ :=
    State.foldl_settleAct_touches s.settleNews order s.settleUnit
  rw [State.settle, h]
  exact ⟨y1, y2, y3, y4, _, y6, y7, y8, y9, y10, y11, y12, rfl⟩

end Sys2Proof.Machine
end

