-- ==== Sys2Proof/Laws/Commands.lean ====
section
/-! SUPPORT. The cases of the operations that every command goes through, said once. -/

namespace Sys2Proof.Machine

/-- A term that names no command is refused; any other completes. -/
theorem whenFormed_cases (i : Instr) (t : State) :
    (i.wellFormed = true ∧ whenFormed i t = .next t) ∨
    (i.wellFormed = false ∧ whenFormed i t = .refused .illFormed) := by
  cases h : i.wellFormed <;> simp [whenFormed, h]

/-- What an arrival does, said once (R150, R151, R158). -/
theorem State.arrive_cases (kind : TxKind) (d : Nat) (q : BitVec 4) (p : List Byte) (r : Bool) (s : State) :
    (s.station = .active ∧ s.arrivesLate = false ∧ s.queue.length < 16 ∧
      s.arrive kind d q p r = s.placeFrame (.arriving kind d q p r s.nextAge)) ∨
    (s.station = .active ∧ s.arrivesLate = false ∧ 16 ≤ s.queue.length ∧ ∃ v, victim kind.cls s.queue = some v ∧
      s.arrive kind d q p r =
        State.placeFrame (.arriving kind d q p r s.nextAge)
          { s with queue := s.queue.erase v, counters := s.counters.countLost v.kind }) ∨
    ((s.station ≠ .active ∨ s.arrivesLate = true ∨
        16 ≤ s.queue.length ∧ (2 ≤ kind.cls ∨ victim kind.cls s.queue = none)) ∧
      s.arrive kind d q p r = s.loseFrame kind) := by
  unfold State.arrive
  by_cases h1 : s.station = .active
  · cases h0 : s.arrivesLate with
    | true => exact .inr (.inr ⟨.inr (.inl rfl), by simp⟩)
    | false =>
      by_cases h2 : s.queue.length < queueLimit
      · exact .inl ⟨h1, rfl, h2, by simp [h1, h2]⟩
      · have h2' : 16 ≤ s.queue.length := Nat.not_lt.mp h2
        by_cases h3 : 2 ≤ kind.cls
        · exact .inr (.inr ⟨.inr (.inr ⟨h2', .inl h3⟩), by simp [h1, h2, h3]⟩)
        · cases h4 : victim kind.cls s.queue with
          | none => exact .inr (.inr ⟨.inr (.inr ⟨h2', .inr rfl⟩), by simp [h1, h2, h3]⟩)
          | some v => exact .inr (.inl ⟨h1, rfl, h2', v, rfl, by simp [h1, h2, h3]⟩)
  · exact .inr (.inr ⟨.inl h1, by simp [h1]⟩)

/-- What the hand-over of a clean frame does, said once (R136). -/
theorem State.handOver_cases (f : Frame) (next : State → State) (s : State) :
    (s.station.receives = false ∧ s.handOver f next = s) ∨
    (s.station.receives = true ∧ f.sender = s.settings.station ∧ s.handOver f next = s.duplicateFound) ∨
    (s.station.receives = true ∧ f.sender ≠ s.settings.station ∧ s.handOver f next = next (s.receive f)) := by
  unfold State.handOver
  by_cases h1 : s.station.receives = true
  · by_cases h2 : f.sender = s.settings.station
    · exact .inr (.inl ⟨h1, h2, by simp [h1, h2]⟩)
    · exact .inr (.inr ⟨h1, h2, by simp [h1, h2]⟩)
  · exact .inl ⟨by simpa using h1, by simp [h1]⟩

/-- What the decoder does with a command frame, said once (R136, R159, R161, R162). -/
theorem State.decode_cases (kind : CommandKind) (f : Frame) (body : State → State × ResultCode × Word16)
    (conclude : ResultCode → Word16 → State → State) (s : State) :
    (s.addressed f = false ∧ s.decode kind f body conclude = s) ∨
    (s.addressed f = true ∧ s.station ≠ .active ∧ s.decode kind f body conclude = s.setAside) ∨
    (s.addressed f = true ∧ s.station = .active ∧ ∃ r, s.repeatOf kind f = some r ∧
      s.decode kind f body conclude = s.answerRepeat kind f r) ∨
    (s.addressed f = true ∧ s.station = .active ∧ s.repeatOf kind f = none ∧
      s.decode kind f body conclude = s.execute kind f body conclude) := by
  unfold State.decode
  by_cases h1 : s.addressed f = true
  · by_cases h2 : s.station = .active
    · cases h3 : s.repeatOf kind f with
      | none => exact .inr (.inr (.inr ⟨h1, h2, rfl, by simp [h1, h2]⟩))
      | some r => exact .inr (.inr (.inl ⟨h1, h2, r, rfl, by simp [h1, h2]⟩))
    · exact .inr (.inl ⟨h1, h2, by simp [h1, h2]⟩)
  · exact .inl ⟨by simpa using h1, by simp [h1]⟩

/-- Taking a sender's sample leaves what its command record says of a repeat (R116, R162). -/
theorem State.repeatOf_receive (kind : CommandKind) (f : Frame) (s : State) :
    (s.receive f).repeatOf kind f = s.repeatOf kind f := by
  have key : ∀ l : List Peer,
      ((refreshPeer f.sender (s.sampleOf f) f.sync l).find? (·.station == f.sender)).bind (·.record) =
        (l.find? (·.station == f.sender)).bind (·.record) := by
    intro l
    unfold refreshPeer
    split <;> rename_i h
    · clear h
      induction l with
      | nil => rfl
      | cons p rest ih =>
        by_cases hp : p.station = f.sender
        · simp [hp]
        · simp only [List.map_cons, List.find?_cons, beq_eq_false_iff_ne.mpr hp, Bool.false_eq_true, if_false]
          exact ih
    · simp only [Bool.not_eq_true, List.any_eq_false, beq_iff_eq] at h
      have hl : l.find? (·.station == f.sender) = none := List.find?_eq_none.mpr (by simpa using h)
      simp [List.find?_append, hl]
  have same : ∀ t : State, t.repeatOf kind f =
      ((t.peer? f.sender).bind (·.record)).filter fun r => r.kind == kind && r.sequence == f.sequence := by
    intro t
    unfold State.repeatOf
    cases t.peer? f.sender <;> rfl
  rw [same, same]
  exact congrArg _ (key s.peers)

/-- Taking a frame's sample leaves the station state and the configured values. -/
@[simp] theorem State.receive_station (f : Frame) (s : State) : (s.receive f).station = s.station := rfl

@[simp] theorem State.receive_settings (f : Frame) (s : State) : (s.receive f).settings = s.settings := rfl

@[simp] theorem State.receive_addressed (f g : Frame) (s : State) : (s.receive f).addressed g = s.addressed g := rfl

/-- What a RESTART's conclusion does, said once (R156, R174, R175). -/
theorem restartConclude_cases (wasPending : Bool) (f : Frame) (code : ResultCode) (detail : Word16) (s : State) :
    restartConclude wasPending f code detail s = s.reply .control f code false detail false ∨
    (code = .ok ∧ f.destination = 31 ∧ restartConclude wasPending f code detail s = s.takeRestart) ∨
    (code = .ok ∧ f.destination ≠ 31 ∧ wasPending = false ∧
      restartConclude wasPending f code detail s =
        if (s.reply .control f code false detail true).holdsRestartReply || s.arrivesLate
        then s.reply .control f code false detail true
        else (s.reply .control f code false detail true).takeRestart) := by
  unfold restartConclude
  by_cases h1 : code = .ok
  · by_cases h2 : f.destination = 31
    · exact .inr (.inl ⟨h1, h2, by simp [h1, h2]⟩)
    · cases wasPending
      · exact .inr (.inr ⟨h1, h2, rfl, by simp [h1, h2]⟩)
      · exact .inl (by simp [h1, h2])
  · exact .inl (by simp [h1])

/-- A removal by CANCEL touches what the removal touches. -/
theorem cancelWhere_touches (gone : Entry → Bool) (s : State) :
    ∃ queue age counters,
      (cancelWhere gone s).1 =
        { s with
          schedule := s.schedule.filter fun e => !gone e
          queue := queue
          nextAge := age
          counters := counters } := by
  obtain ⟨q, n, k, h⟩ := State.foldl_notice_touches (s.schedule.filter gone) .cancelled
    { s with schedule := s.schedule.filter fun e => !gone e }
  exact ⟨q, n, k, h⟩

/-- A RELEASE_HOLD touches the channels and the pairs. -/
theorem State.release_touches (mask : Byte) (s : State) :
    ∃ channels pairs, (s.release mask).1 = { s with channels := channels, pairs := pairs } := ⟨_, _, rfl⟩

/-- A CLEAR_COUNTERS touches the counters, and in channels, inputs and slots the counts they hold. -/
theorem State.clearCounters_touches (s : State) :
    ∃ channels inputs slots,
      s.clearCounters =
        { s with counters := {}, channels := channels, inputs := inputs, slots := slots } := ⟨_, _, _, rfl⟩

/-- A restart leaves the waiting commands, both times, the correction, the sync state, the settle phase,
the inputs, the mark number, the slots and the configured values (R191). -/
theorem State.takeRestart_keeps (s : State) :
    s.takeRestart.pending = s.pending ∧ s.takeRestart.localTime = s.localTime ∧
    s.takeRestart.correction = s.correction ∧ s.takeRestart.sync = s.sync ∧
    s.takeRestart.settleNext = s.settleNext ∧ s.takeRestart.inputs = s.inputs ∧
    s.takeRestart.markNumber = s.markNumber ∧ s.takeRestart.slots = s.slots ∧
    s.takeRestart.settings = s.settings := by
  simp [State.takeRestart, State.cutLine, State.holdAll, State.enterHold]

/-- The entry into SILENCED leaves the waiting commands, the line time unit, the capture unit, the
slots, the peers and the configured values (R188). -/
theorem State.silence_keeps (s : State) :
    s.silence.pending = s.pending ∧ s.silence.localTime = s.localTime ∧
    s.silence.correction = s.correction ∧ s.silence.sync = s.sync ∧ s.silence.settleNext = s.settleNext ∧
    s.silence.inputs = s.inputs ∧ s.silence.captureLog = s.captureLog ∧
    s.silence.markNumber = s.markNumber ∧ s.silence.slots = s.slots ∧ s.silence.peers = s.peers ∧
    s.silence.settings = s.settings := by
  simp [State.silence, State.cutLine, State.holdAll, State.enterHold]

end Sys2Proof.Machine
end

