-- ==== Sys2Proof/Laws/Line.lean ====
section
/-! SUPPORT. What the judgement of a stretch, the hand-over of a clean frame, the end of a stretch and a mark at one slot can
do, said once. -/

namespace Sys2Proof.Machine

/-- A stretch judged clean held no break, began with the start pattern, had nothing after its cells, and
gives a frame that R135 lets pass. -/
theorem judge_clean {breakNoted : Bool} {cells : List Bool} {more : Bool} {kind : FrameKind} {f : Frame}
    (h : judge breakNoted cells more = .clean kind f) :
    breakNoted = false ∧ cells.take 16 = startPattern ∧ more = false ∧ f.wellFormed kind = true := by
  have header : ∀ a b, judgeHeader a b = .clean kind f → f.wellFormed kind = true := by
    intro a b hb
    unfold judgeHeader at hb
    split at hb
    · cases hb
    · split at hb
      · rename_i hc
        cases hb
        simp [Frame.wellFormed, hc]
      · cases hb
  unfold judge at h
  split at h
  · cases h
  · rename_i hn
    split at h
    · cases h
    · rename_i hs
      refine ⟨by simpa using hn, by simpa using hs, ?_⟩
      unfold judgeBody at h
      dsimp only at h
      split at h
      · cases h
      · split at h
        · cases h
        · split at h
          · cases h
          · rename_i hm
            split at h
            · cases h
            · split at h
              · cases h
              · exact ⟨by simpa using fun hm' => hm (.inr hm'), header _ _ h⟩

/-- A well-formed term answers a next state. -/
theorem whenFormed_next {i : Instr} {t : State} (h : i.wellFormed = true) : ∃ u, whenFormed i t = .next u :=
  ⟨t, by simp [whenFormed, h]⟩

/-- A well-formed frame from another station, handed on, answers a next state (R136). -/
theorem State.deliverOther_next {kind : FrameKind} {f : Frame} (s : State) (h : f.wellFormed kind = true) :
    ∃ t, s.deliverOther kind f = .next t := by
  unfold State.deliverOther
  dsimp only
  split
  · rename_i hc
    simp only [Bool.and_eq_true] at hc
    exact whenFormed_next (by simp [Instr.wellFormed, h, hc.1])
  · cases kind <;> dsimp only
    all_goals try exact whenFormed_next (by simp [Instr.wellFormed, h, FrameKind.isAnswer])
    · split <;> exact whenFormed_next (by simp [Instr.wellFormed, *])
    · split <;> exact whenFormed_next (by simp [Instr.wellFormed, *])
    · split <;> exact whenFormed_next (by simp_all [Instr.wellFormed]; try omega)
    · split <;> exact whenFormed_next (by simp_all [Instr.wellFormed]; try omega)

/-- A well-formed overtaken step answers a next state. -/
theorem State.takeOvertaken_next {o : OvertakenStep} (s : State) (h : o.wellFormed = true) :
    ∃ t, s.takeOvertaken o = .next t := by
  cases o with
  | entryDue => exact ⟨_, rfl⟩
  | settlePoint order => exact whenFormed_next h
  | captureEdge i e first => exact ⟨_, rfl⟩
  | delivered kind f =>
    unfold State.takeOvertaken
    dsimp only
    split
    · exact ⟨_, rfl⟩
    · exact s.deliverOther_next h

/-- What a DUPLICATE_NUMBER_FRAME does, said once (R126, R158, R176). -/
theorem execDuplicateNumberFrame_cases {kind : FrameKind} {f : Frame} {overtaken : Option Overtaken} (s : State)
    (h : (Instr.duplicateNumberFrame kind f overtaken).wellFormed = true) :
    (f.sender ≠ s.settings.station ∧ execDuplicateNumberFrame kind f overtaken s = .next s) ∨
    (f.sender = s.settings.station ∧ overtaken = none ∧
      execDuplicateNumberFrame kind f overtaken s = .next s.duplicateFound) ∨
    (f.sender = s.settings.station ∧ ∃ o u, overtaken = some o ∧
      State.takeOvertaken o.step
          { s with queueShutFrom := if s.station = .active then some (s.nextAge + o.placed) else none } = .next u ∧
      execDuplicateNumberFrame kind f overtaken s = .next (State.duplicateFound { u with queueShutFrom := none })) := by
  unfold execDuplicateNumberFrame
  by_cases hf : f.sender = s.settings.station
  · cases overtaken with
    | none => exact .inr (.inl ⟨hf, rfl, by simp [h, hf]⟩)
    | some o =>
      have ho : o.step.wellFormed = true := by simpa using (Bool.and_eq_true_iff.mp h).2
      obtain ⟨u, hu⟩ := State.takeOvertaken_next
        { s with queueShutFrom := if s.station = .active then some (s.nextAge + o.placed) else none } ho
      refine .inr (.inr ⟨hf, o, u, rfl, hu, ?_⟩)
      simp only [h, hf, Bool.not_true, Bool.false_eq_true, if_false, ne_eq, not_true_eq_false, State.overtake]
      rw [hu]
      rfl
  · exact .inl ⟨hf, by simp [h, hf]⟩

/-- A well-formed frame handed on answers a next state (R136). -/
theorem State.deliver_next {kind : FrameKind} {f : Frame} (s : State) (h : f.wellFormed kind = true) :
    ∃ t, s.deliver kind f = .next t := by
  unfold State.deliver
  split
  · have hw : (Instr.duplicateNumberFrame kind f none).wellFormed = true := by simp [Instr.wellFormed, h]
    obtain ⟨-, hx⟩ | ⟨-, -, hx⟩ | ⟨-, _, _, ho, -⟩ := execDuplicateNumberFrame_cases s hw
    · exact ⟨_, hx⟩
    · exact ⟨_, hx⟩
    · cases ho
  · exact s.deliverOther_next h

/-- The end of a received stretch, said once (R133, R134, R136): it is counted under its class; one that is
not clean is discarded, and a clean one's frame is handed on before or after the quiet period begins. -/
theorem State.endStretch_cases (cells : List Bool) (more first : Bool) (s : State) :
    (∃ n, s.endStretch cells more first = .next ({ s.discardStretch with counters := n } : State).beginQuiet ∧
      (judge s.line.breakNoted cells more = .broken ∧ n = { s.counters with broken := bump s.counters.broken } ∨
        judge s.line.breakNoted cells more = .crcError ∧
          n = { s.counters with crcErrors := bump s.counters.crcErrors } ∨
        judge s.line.breakNoted cells more = .malformed ∧
          n = { s.counters with malformed := bump s.counters.malformed })) ∨
    ∃ kind f t u, judge s.line.breakNoted cells more = .clean kind f ∧ f.wellFormed kind = true ∧
      t = { s with counters := { s.counters with cleanFrames := bump s.counters.cleanFrames } } ∧
      (first = true ∧ t.deliver kind f = .next u ∧ s.endStretch cells more first = .next u.beginQuiet ∨
        first = false ∧ t.beginQuiet.deliver kind f = .next u ∧ s.endStretch cells more first = .next u) := by
  cases h : judge s.line.breakNoted cells more with
  | broken => exact .inl ⟨_, by simp only [State.endStretch, h]; rfl, .inl ⟨rfl, rfl⟩⟩
  | crcError => exact .inl ⟨_, by simp only [State.endStretch, h]; rfl, .inr (.inl ⟨rfl, rfl⟩)⟩
  | malformed => exact .inl ⟨_, by simp only [State.endStretch, h]; rfl, .inr (.inr ⟨rfl, rfl⟩)⟩
  | clean kind f =>
    have hf := (judge_clean h).2.2.2
    cases first with
    | true =>
      obtain ⟨u, hu⟩ := State.deliver_next
        { s with counters := { s.counters with cleanFrames := bump s.counters.cleanFrames } } hf
      exact .inr ⟨kind, f, _, u, rfl, hf, rfl, .inl ⟨rfl, hu, by
        simp only [State.endStretch, h, State.count, if_true]; rw [hu]; rfl⟩⟩
    | false =>
      obtain ⟨u, hu⟩ := State.deliver_next
        (State.beginQuiet { s with counters := { s.counters with cleanFrames := bump s.counters.cleanFrames } }) hf
      exact .inr ⟨kind, f, _, u, rfl, hf, rfl, .inr ⟨rfl, hu, by
        simp only [State.endStretch, h, State.count]; exact hu⟩⟩

/-! ### A mark at one slot -/

/-- A slot that is empty or does not match passes a mark over; a matching one is left as its match leaves it. -/
theorem State.markSlot_cases (m : Mark) (i : Fin 24) (s : State) :
    ((∀ r ∈ s.slots[i], r.matchesMark m = false) ∧ s.markSlot m i = s) ∨
    (∃ r, s.slots[i] = some r ∧ r.matchesMark m = true ∧ s.markSlot m i = s.matchTaken m r i) := by
  unfold State.markSlot
  split
  · exact .inl ⟨by simp [*], rfl⟩
  · rename_i r hr
    split
    · refine .inr ⟨r, hr, ‹_›, ?_⟩
      obtain ⟨sch, ch, q, n, k, h⟩ := State.runMatch_touches m r i s
      simp [State.matchTaken, State.setSlot, h]
    · exact .inl ⟨by simp_all, rfl⟩

end Sys2Proof.Machine
end

