-- ==== Sys2Proof/Tests/Slice0.lean ====
section
/-! SUPPORT. Tests of the model: expected results come from the manual's worked examples and tables, or
by hand from its rules; and for every statement that has hypotheses, a state that meets them. -/

namespace Sys2Proof.Tests

-- One test at a time: a test's kernel evaluation waits for all before it.
set_option Elab.async false

open Sys2Proof.Machine

/-! ### Helpers -/

/-- The next state a command answers, if it answers one. -/
def outcome (i : Instr) (s : State) : Option State :=
  match exec i s with
  | .next t => some t
  | .fault _ => none
  | .refused _ => none

/-- A command that has an outcome answers a next state. -/
theorem exists_next {i : Instr} {s : State} (p : State → Bool) (h : (outcome i s).any p = true) :
    ∃ t, exec i s = .next t ∧ p t = true := by
  unfold outcome at h
  split at h
  · exact ⟨_, ‹_›, h⟩
  all_goals cases h

/-- The values of a station 9: one settle interval of 100,000 ticks, listen time 2, window 20, step limit
50, silence limit 5, LEVEL channels but for CARRIER 1 and GENERATOR 6, no pair, inputs RISING and CI1
RISE_4, both with a hold-off of 500. -/
def values : Settings :=
  { Settings.blank with
    station := 9
    settleMultiple := 1
    listenTime := 2
    lockWindow := 20
    stepLimit := 50
    silenceLimit := 5
    carrierHalf := 7
    channels :=
      ((Vector.replicate 8 ⟨.level, false, true, false, 1000, 250⟩).set 1 ⟨.carrier, false, false, false, 1000, 250⟩).set 6
        ⟨.generator, true, false, false, 1000, 250⟩
    inputs := (Vector.replicate 4 ⟨.rising, 500, true⟩).set 1 ⟨.rise4, 500, false⟩ }

/-- Station 9, ACTIVE on a quiet line, in ALONE, at local time 1,000. -/
def station : State :=
  { State.reset with
    station := .active
    resetHeld := false
    settings := values
    localTime := 1000
    settleNext := some 100000
    channels := Vector.replicate 8 { Channel.blank with activeSet := ⟨1000, 250⟩ }
    roster := [9]
    line := { LineInterface.blank with condition := .quiet, quietCount := some 0, nextStep := 1080 } }

/-- Station 9 in a sync state, with peers in roster order: number, sample, age, reported state. -/
def tuned (sync : SyncState) (lock drift : Nat) (peers : List (Nat × Int × Nat × SyncState)) : State :=
  { station with
    sync := sync
    lockCount := lock
    driftCount := drift
    localTime := 100000
    peers := peers.map fun p => ⟨p.1, BitVec.ofInt 32 p.2.1, p.2.2.1, p.2.2.2, p.2.2.1, none⟩
    roster := peers.map (·.1) ++ [9] }

/-- A frame of sequence 3 from a LOCKED sender, stamped 500. -/
def frame (sender destination : Nat) (payload : List Nat) : Frame :=
  ⟨sender, destination, 3, .locked, 500, payload.map byteOf⟩

/-- An entry of a channel without repeat, lock requirement or notify station. -/
def entry (origin tag : Nat) (channel : Fin 8) (a : Action) (param due : Nat) : Entry :=
  ⟨origin, BitVec.ofNat 16 tag, channel, a, BitVec.ofNat 16 param, BitVec.ofNat 32 due, none, false, none, none, false⟩

/-- A frame queued for sending. -/
def queued (kind : TxKind) (age : Nat) : TxFrame := ⟨kind, 31, 0, [], age, 0, false, false⟩

/-! ### Which terms name a command -/

/-- One ill-formed term for each check of `WellFormed.lean`. -/
def illFormed : List Instr :=
  [.resetNReleased [0xA7], .settlePoint [.agePeers], .settlePoint [.agePeers, .agePeers, .stampDuty, .listenCount, .hold, .schedule],
    .helloReceived (frame 0 9 []), .helloReceived (frame 31 9 []), .helloReceived (frame 5 0 []),
    .helloReceived (frame 5 32 []), .helloReceived (frame 5 9 [1]), .stampReceived (frame 5 9 [1]),
    .markReceived (frame 5 9 [1]), .foreignAnswer .hello (frame 5 9 []), .foreignAnswer .reply (frame 5 9 []),
    .duplicateNumberFrame .hello (frame 9 9 [1]) none,
    .duplicateNumberFrame .hello (frame 9 9 []) (some ⟨.delivered .control (frame 5 31 []), 0⟩),
    .duplicateNumberFrame .hello (frame 9 9 []) (some ⟨.settlePoint [.hold], 0⟩), .arm (frame 5 9 [1]), .cancelByTag (frame 5 9 [0]),
    .cancelByTag (frame 5 9 [1, 0]), .cancelByChannel (frame 5 9 [0, 0]), .setgen (frame 5 9 [0]),
    .reactInstall (frame 5 9 [1, 0]), .reactRemove (frame 5 9 [0, 0]), .queryStatus (frame 5 9 [1, 0]),
    .querySchedule (frame 5 9 [0, 0]), .queryCaptures (frame 5 9 [0, 0]), .queryPeers (frame 5 9 [0, 0]),
    .queryReactions (frame 5 9 [0, 0]), .queryCounters (frame 5 9 [0, 0]), .queryChannels (frame 5 9 [0, 0]),
    .releaseHold (frame 5 9 [1]), .clearCounters (frame 5 9 [0, 0]), .flushSchedule (frame 5 9 [0, 0]),
    .restart (frame 5 9 [0, 0]), .commandForAnotherStation .hello (frame 5 7 []),
    .commandForAnotherStation .query (frame 5 7 []), .queryUnknownTopic (frame 5 9 [6, 0])]

theorem test_ill_formed_terms_are_refused :
    (illFormed.all fun i => !i.wellFormed && (outcome i station).isNone) = true := by decide +kernel

/-! ### Formats (chapter 11) -/

/-- R195: the nine ASCII digits give the CRC 0x29B1. -/
theorem test_crc_check_value :
    crc [0x31, 0x32, 0x33, 0x34, 0x35, 0x36, 0x37, 0x38, 0x39] = 0x29B1 := by decide +kernel

/-- A HELLO from 5 to all, sequence 0, ALONE, stamp 0x12345678: its bytes, the CRC worked out by hand. -/
theorem test_hello_bytes :
    bitsBytes (frameCells .hello ⟨5, 31, 0, .alone, 0x12345678, []⟩) =
      [0x55, 0x57, 0x05, 0x1F, 0x10, 0x00, 0x12, 0x34, 0x56, 0x78, 0x00, 0x77, 0xEC, 0x3D] := by decide +kernel

/-- R133, R134: the upper bits of the sync-state byte are ignored, a length above 32 is MALFORMED, a cut frame
is BROKEN, and so is one that a tail of activity follows. -/
theorem test_judge_classes :
    judge false (startPattern ++ bytesBits ([0x05, 0x1F, 0x10, 0, 0, 0, 0, 0, 33])) true = .malformed ∧
    judge false ((frameCells .hello ⟨5, 31, 0, .alone, 0, []⟩).dropLast) true = .broken ∧
    judge true (frameCells .hello ⟨5, 31, 0, .alone, 0, []⟩) false = .broken ∧
    judge false (frameCells .hello ⟨5, 31, 0, .alone, 0, []⟩) true = .broken ∧
    syncOf 0xFE = .locked := by decide +kernel

/-! ### Line time (section 1.5) -/

/-- The example of a locked station with mixed peers. -/
theorem test_settle_point_locked :
    (outcome (.settlePoint SettleAct.all)
        (tuned .locked 3 0 [(5, 12, 0, .locked), (17, -7, 1, .locked), (22, 31, 0, .adrift), (3, 400, 0, .acquiring),
          (11, 9, 2, .locked)])).any
      (fun t => t.correction == 6 && t.lastDelta == 6 && t.sync == .locked && t.peers.map (·.age) == [1, 2, 1, 1, 3]) =
      true := by decide +kernel

/-- The example of a clamp and a move to ADRIFT. -/
theorem test_settle_point_clamps :
    (outcome (.settlePoint SettleAct.all.reverse)
        (tuned .locked 3 0 [(5, 140, 0, .locked), (17, 150, 1, .locked)])).any
      (fun t => t.correction == 50 && t.lastDelta == 75 && t.sync == .adrift && t.driftCount == 1 && t.syncPin &&
        t.counters.clampedCorrections == 1) = true := by decide +kernel

/-- The example of truncation in ACQUIRING. -/
theorem test_delta_truncates : deltaOf [0, -3, -5] = -2 := by decide

/-! ### The schedule (section 2.8) -/

/-- The example of a repeating entry overtaken by a forward step, after the step. -/
def overtaken : State :=
  { station with
    sync := .acquiring
    localTime := 999800
    correction := 350
    schedule :=
      [{ entry 12 7 2 .pulse 500 1000000 with repetition := some ⟨100, some 5⟩, notify := some 12 },
        { entry 12 8 3 .setHigh 0 1000120 with lockRequired := true },
        entry 4 1 4 .toggle 0 1000200] }

theorem test_entry_due_skips_and_drops :
    (outcome .entryDue overtaken).any
      (fun t => t.schedule.map (·.due) == [1000200, 1000200] && t.schedule.map (·.origin) == [4, 12] &&
        t.schedule.map (·.repetition) == [none, some ⟨100, some 3⟩] && t.counters.fired == 1 &&
        t.counters.repeatsSkipped == 1 && t.counters.dropped == 1) = true := by decide +kernel

/-- An ARM of a TOGGLE on channel 2 due at 2,000, tag 40, answered OK with occupancy 1 (R35, R165). -/
def armFrame : Frame := frame 28 9 [2, 2, 0, 2, 0, 0, 0, 0, 0x07, 0xD0, 0, 40]

theorem test_arm_inserts_and_answers :
    (outcome (.arm armFrame) station).any
      (fun t => t.schedule.map (·.due) == [2000] && t.schedule.map (·.notify) == [some 28] &&
        t.queue.map (·.payload) == [[4, 3, 0, 0, 0, 1]]) = true := by decide +kernel

/-- A due equal to the present is refused LATE (3), and counted (R33, R50). -/
theorem test_arm_late :
    (outcome (.arm (frame 28 9 [2, 2, 0, 0, 0, 0, 0, 0, 0x03, 0xE8, 0, 40])) station).any
      (fun t => t.schedule == [] && t.queue.map (·.payload) == [[4, 3, 3, 0, 0, 0]] &&
        t.counters.armsRefused == 1) = true := by decide +kernel

/-- A SET_LOW on channel 2 due at 900, late ok, tag 41. -/
def lateFrame : Frame := frame 28 9 [2, 1, 0, 4, 0, 0, 0, 0, 0x03, 0x84, 0, 41]

/-- Station 9 in the moment in which the SET_HIGH of tag 7 falls due, before it fires. -/
def dueNow : State := { station with schedule := [entry 28 7 2 .setHigh 0 1000, entry 28 8 3 .toggle 0 3000] }

/-- A late-ok ARM of the moment in which an entry falls due fires behind it: it was armed later (R37, R56). -/
theorem test_arm_late_ok_fires_in_order :
    (outcome (.arm lateFrame) dueNow).any
      (fun t => !t.channels[2].latch && t.counters.fired == 2 && t.schedule.map (·.tag) == [8] &&
        t.queue.map (·.payload) == [[4, 3, 0, 0, 0, 1]]) = true := by decide +kernel

/-- Station 9 with three entries held, two of computer 28's. -/
def scheduled : State :=
  { station with
    schedule := [entry 28 7 2 .toggle 0 2000, entry 28 8 3 .toggle 0 3000, { entry 4 1 2 .toggle 0 4000 with notify := some 4 }] }

theorem test_cancel_by_tag :
    (outcome (.cancelByTag (frame 28 9 [0, 4, 0, 1])) scheduled).any
      (fun t => t.schedule.map (·.tag) == [7, 8] &&
        t.queue.map (·.payload) == [[5, 3, 0, 0, 0, 1], [4, 0, 1, 2, 3, 0, 0, 0x03, 0xE8]]) = true := by decide +kernel

theorem test_cancel_by_channel :
    (outcome (.cancelByChannel (frame 5 9 [1, 2])) scheduled).any
      (fun t => t.schedule.map (·.tag) == [8] && (t.queue.map (·.payload)).head? == some [5, 3, 0, 0, 0, 2]) = true := by
  decide +kernel

theorem test_flush_own :
    (outcome (.flushSchedule (frame 28 9 [2, 0])) scheduled).any
      (fun t => t.schedule.map (·.tag) == [1] && t.queue.map (·.payload) == [[9, 3, 0, 0, 0, 2]]) = true := by
  decide +kernel

/-! ### Output channels (section 3.4's and 3.5's examples) -/

/-- The generator of channel 6 in its frame 2,000,000 to 2,001,000. -/
def generating (g : GenState) (phase : Bool) (pending : Option GenSet) (now : Nat) : State :=
  { station with
    localTime := BitVec.ofNat 32 now
    channels :=
      station.channels.set 6
        { Channel.blank with
          gen := g
          phaseHigh := phase
          activeSet := ⟨1000, 250⟩
          pendingSet := pending
          frameStart := 2000000
          highEnd := 2000250
          frameEnd := 2001000 } }

theorem test_generator_high_end :
    (outcome (.genHighEnd 6) (generating .running true none 2000250)).any
      (fun t => t.drive 6 == false && t.pin 6 && t.channels[6].gen == .running) = true := by decide +kernel

theorem test_generator_stops_at_frame_end :
    (outcome (.genFrameEnd 6) (generating .stopping false (some ⟨400, 200⟩) 2001000)).any
      (fun t => t.channels[6].gen == .stopped && t.channels[6].activeSet == ⟨400, 200⟩ && t.channels[6].frameCount == 1 &&
        t.channels[6].pendingSet == none) = true := by decide +kernel

/-- The high end falls on the frame end, and the phase change is part of its event (R65). -/
theorem test_full_period_stops_low :
    ([Instr.genFrameEnd 6, .genHighEnd 6].all fun i =>
      (outcome i (station.setChannel 6
          { Channel.blank with
            gen := .stopping, phaseHigh := true, activeSet := ⟨400, 400⟩, frameStart := 600, highEnd := 1000
            frameEnd := 1000 })).any
        fun t => t.channels[6].gen == .stopped && !t.channels[6].phaseHigh && t.channels[6].frameCount == 1) = true := by
  decide +kernel

theorem test_setgen_becomes_pending :
    (outcome (.setgen (frame 28 9 [6, 1, 0x90, 0, 200])) (generating .running false none 2000600)).any
      (fun t => t.channels[6].pendingSet == some ⟨400, 200⟩ && t.queue.map (·.payload) == [[6, 3, 0, 0, 0, 1]]) = true := by
  decide +kernel

/-- Pair 2/3 with dead band 30: the drives and turn-on of the example at a local time. -/
def paired (pulse : Option Pulse) (d even odd : Bool) (turnOn : Option Time) (now : Nat) : State :=
  { station with
    localTime := BitVec.ofNat 32 now
    settings := { values with pairs := values.pairs.set 1 ⟨true, 30⟩ }
    channels := station.channels.set 2 { Channel.blank with pulse := pulse }
    pairs := station.pairs.set 1 ⟨⟨d, even, odd, turnOn⟩, none, ⟨d, even, odd, turnOn⟩⟩ }

theorem test_pulse_through_pair_ends :
    (outcome (.pulseEnd 2) (paired (some ⟨true, 1100⟩) true true false none 1100)).any
      (fun t => t.drive 2 == false && t.drive 3 == false && t.pairs[1].drive.turnOn == some 1130) = true := by
  decide +kernel

theorem test_dead_band_expires :
    (outcome (.deadBandExpiry 1) (paired none false false false (some 1130) 1130)).any
      (fun t => t.drive 2 == false && t.drive 3 && t.pairs[1].drive.turnOn == none) = true := by decide +kernel

/-- A burst of two cycles on channel 1: the end of its first half (R59). -/
def bursting (b : Burst) : State :=
  { station with channels := station.channels.set 1 { Channel.blank with burst := some b } }

theorem test_burst_half_ends :
    (outcome (.burstHalfEnd 1) (bursting ⟨2, true, 1000⟩)).any
      (fun t => t.channels[1].burst == some ⟨2, false, 1007⟩ && t.drive 1 == false) = true := by decide +kernel

/-- Station 9 with channel 2 held for a loss of lock, channel 1 for another cause (R76). -/
def held : State :=
  { station with
    channels :=
      (station.channels.set 2 { Channel.blank with hold := some .loss }).set 1 { Channel.blank with hold := some .fault } }

theorem test_release_hold_unsynced :
    (outcome (.releaseHold (frame 28 9 [0, 0x06])) held).any
      (fun t => t.channels[1].hold == none && t.channels[2].hold == some .loss &&
        t.queue.map (·.payload) == [[9, 3, 9, 0, 0, 2]]) = true := by decide +kernel

/-! ### Capture inputs (section 4's example) and reactions (section 5.7) -/

/-- CI1 in RISE_4 at a prescale count, with a hold-off in flight or not, at mark number 40. -/
def sampling (prescale : Nat) (holdOff : Option Time) (now : Nat) : State :=
  { station with
    localTime := BitVec.ofNat 32 now
    markNumber := 40
    inputs := station.inputs.set 1 ⟨false, prescale, holdOff, 0, false⟩ }

theorem test_fourth_rise_is_captured :
    (outcome (.captureEdge 1 .rise true) (sampling 3 none 3600)).any
      (fun t => t.captureLog == [⟨1, .rise, 3600, 40, .alone⟩] && t.markNumber == 41 &&
        t.inputs[1] == ⟨true, 0, some 4100, 0, true⟩) = true := by decide +kernel

theorem test_bounce_is_suppressed :
    (outcome (.captureEdge 1 .rise true) (sampling 1 (some 1500) 1300)).any
      (fun t => t.inputs[1] == ⟨true, 1, some 1500, 1, true⟩ && t.markNumber == 40) = true := by decide +kernel

/-- An input held high through configuration gives no RISE, and one tick gives no second edge (R84). -/
theorem test_no_edge_without_change :
    ([(Edge.rise, (⟨true, 3, none, 0, false⟩ : CaptureInput)), (.fall, ⟨true, 3, none, 0, true⟩)].all fun c =>
      outcome (.captureEdge 1 c.1 true) { sampling 3 none 3600 with inputs := station.inputs.set 1 c.2 } ==
        some { sampling 3 none 3600 with inputs := station.inputs.set 1 c.2 }) = true := by decide +kernel

theorem test_hold_off_expires :
    (outcome (.holdOffExpiry 1) (sampling 1 (some 1500) 1500)).any (fun t => t.inputs[1] == ⟨false, 1, none, 0, false⟩) =
      true := by decide +kernel

theorem test_uninteresting_edge :
    (outcome (.inputEdgeNotOfInterest 1 .fall) { sampling 1 none 1500 with inputs := station.inputs.set 1 ⟨true, 1, none, 0, false⟩ }).any
      (fun t => t.inputs[1] == ⟨false, 1, none, 0, true⟩ && t.captureLog == []) = true := by decide +kernel

/-- A slot of the example of one mark against several slots. -/
def slot (source : Option Nat) (c : Fin 8) (a : Action) (param delay tag : Nat) (late : LatePolicy) (again : Retrigger) :
    Reaction :=
  { source := source, input := some 0, edge := some .rise, gate := none, channel := c, action := a,
    param := BitVec.ofNat 16 param, delay := delay, repetition := none, lockRequired := false, latePolicy := late,
    retrigger := again, notify := none, tag := BitVec.ofNat 16 tag, installer := 12, hits := 0, lastOutcome := .none }

/-- Station 17 of the example, LOCKED at line time 5,001,300, CI2 low. -/
def reacting : State :=
  { station with
    sync := .locked
    lockCount := 3
    localTime := 5001300
    settings := { values with station := 17 }
    schedule := [{ entry 17 103 5 .pulse 50 5010000 with source := some 4 }]
    slots :=
      ((((station.slots.set 0 (some { slot (some 9) 1 .pulse 200 20000 100 .drop .replace with lockRequired := true, notify := some 12 })).set 1
        (some { slot none 4 .setHigh 0 5000 101 .drop .replace with input := none, edge := none, gate := some (2, true) })).set 2
        (some (slot (some 5) 4 .setLow 0 1000 102 .drop .replace))).set 3
        (some (slot (some 9) 5 .toggle 0 0 104 .fireNow .replace))).set 4 (some (slot (some 9) 5 .pulse 50 20000 103 .drop .keep)) }

/-- The MARK of station 9 in the example: input 0, RISE, capture time 5,000,000, LOCKED. -/
def markFrame : Frame := frame 9 31 [0, 0, 0x00, 0x4C, 0x4B, 0x40, 0, 7, 2]

theorem test_mark_against_slots :
    (outcome (.markReceived markFrame) reacting).any
      (fun t => (t.slots.toList.take 5).map (Option.map (·.lastOutcome)) ==
          [some .armed, some .gated, some .none, some .armed, some .kept] &&
        t.schedule.map (fun e => (e.tag, e.due)) == [(103, 5010000), (100, 5020000)] &&
        t.channels[5].latch && t.counters.fired == 1) = true := by decide +kernel

/-- A MARK of an input above 3 is a bad mark (R92). -/
theorem test_bad_mark :
    (outcome (.markReceived (frame 5 31 [4, 0, 0, 0, 0, 0, 0, 7, 2])) reacting).any
      (fun t => t.counters.badMarks == 1 && t.slots == reacting.slots) = true := by decide +kernel

/-- A REACT INSTALL of slot 0 of the example, for station 9, and its REMOVE (R99 to R101, R168). -/
def installFrame : Frame :=
  frame 12 9 [0, 0, 5, 0, 0, 255, 0, 0, 3, 0, 200, 0, 0, 0x4E, 0x20, 0, 0, 0, 0, 0, 0, 1, 1, 0, 12, 0, 100]

theorem test_react_install :
    (outcome (.reactInstall installFrame) station).any
      (fun t => t.slots[0] ==
          some { slot (some 5) 0 .pulse 200 20000 100 .drop .replace with lockRequired := true, notify := some 12 } &&
        t.queue.map (·.payload) == [[7, 3, 0, 0, 0, 1]]) = true := by decide +kernel

theorem test_react_remove_not_found :
    (outcome (.reactRemove (frame 12 9 [1, 3])) station).any (fun t => t.queue.map (·.payload) == [[7, 3, 10, 0, 0, 0]]) =
      true := by decide +kernel

/-! ### Peers and the roster -/

/-- Station 9 with three peers, and the local time 480 latched for the frame in progress. -/
def listening : State :=
  { tuned .locked 3 0 [(5, 3, 0, .locked), (17, -7, 1, .locked), (22, 31, 2, .adrift)] with
    line := { station.line with condition := .busy, quietCount := none, latched := some 480 } }

/-- R6, R116, R121: stamp 500 against a latched 480 is a sample of +20, and the sender goes to the end. -/
theorem test_hello_moves_sender_to_end :
    (outcome (.helloReceived (frame 5 31 [])) listening).any
      (fun t => t.roster == [17, 22, 9, 5] && (t.peer? 5).any (fun p => p.sample == 20 && p.age == 0)) = true := by
  decide +kernel

theorem test_stamp_creates_peer :
    (outcome (.stampReceived (frame 30 31 [])) listening).any
      (fun t => t.roster == [5, 17, 22, 9, 30] && (t.peer? 30).any (fun p => p.reported == .locked && p.record == none)) =
      true := by decide +kernel

theorem test_foreign_answer_is_counted :
    (outcome (.foreignAnswer .reply (frame 17 5 [4, 0, 0, 0, 0, 0])) listening).any
      (fun t => t.roster == [5, 22, 9, 17] && t.counters.foreignAnswers == 1) = true := by decide +kernel

theorem test_command_for_another_station :
    (outcome (.commandForAnotherStation .setgen (frame 17 5 [6, 1, 0, 0, 0])) listening).any
      (fun t => t.roster == [5, 22, 9, 17] && t.queue == [] && t.channels == listening.channels) = true := by
  decide +kernel

theorem test_duplicate_number_silences :
    (outcome (.duplicateNumberFrame .hello (frame 9 31 []) none) { scheduled with queue := [queued .hello 0] }).any
      (fun t => t.station == .silenced && t.faultPin && t.schedule == [] && t.queue == [] && t.roster == [] &&
        t.channels[0].hold == some .fault) = true := by decide +kernel

/-- The answer of a command of the same moment arrives after the emptying: a lost reply, the command recorded
(R158, R176). -/
theorem test_answer_lost_to_silence :
    (outcome (.duplicateNumberFrame .hello (frame 9 31 []) (some ⟨.delivered .arm armFrame, 0⟩)) station).any
      (fun t => t.station == .silenced && t.schedule == [] && t.queue == [] && t.counters.lostReplies == 1 &&
        (t.peer? 28).any (fun p => p.record == some ⟨.arm, 3, .ok, 1⟩)) = true := by decide +kernel

/-- Two entries fire in the moment of the entry into SILENCED: the NOTICE of the first is queued and removed with
the queue, the NOTICE of the second arrives after the emptying and is lost (R150, R158). -/
theorem test_notice_lost_to_silence :
    (outcome (.duplicateNumberFrame .hello (frame 9 31 []) (some ⟨.entryDue, 1⟩))
      { station with
        schedule :=
          [{ entry 28 7 2 .setHigh 0 1000 with notify := some 28 }, { entry 28 8 3 .setHigh 0 1000 with notify := some 28 }] }).any
      (fun t => t.station == .silenced && t.queue == [] && t.counters.fired == 2 && t.counters.lostNotices == 1) = true := by
  decide +kernel

/-! ### Line access (section 7.3's example) and the transmit queue (section 8.7's) -/

/-- Station 17 of the example, roster 9, 17, 22, 5, with a STAMP queued, its stretch in progress. -/
def deferring : State :=
  { station with
    settings := { values with station := 17 }
    roster := [9, 17, 22, 5]
    queue := [queued .stamp 0]
    nextAge := 1
    line := { station.line with condition := .busy, quietCount := none, latched := some 480 } }

/-- The HELLO is handed on in the same event (R136): a sample of +20 against the latched 480, and computer 9's
move to the roster's end before or after the rank is read (R125). -/
theorem test_quiet_line_hands_frame_on :
    ([(true, 3), (false, 4)].all fun order =>
      (outcome (.lineGoesQuiet (frameCells .hello (frame 9 31 [])) false order.1) deferring).any
        (fun t => t.line.target == some order.2 && t.line.quietCount == some 0 && t.counters.cleanFrames == 1 &&
          t.roster == [17, 22, 5, 9] && (t.peer? 9).any (fun p => p.sample == 20) && t.line.latched == none)) = true := by
  decide +kernel

theorem test_quiet_line_after_break :
    (outcome (.lineGoesQuiet (frameCells .hello (frame 5 31 [])) false true)
        { deferring with line := { deferring.line with breakNoted := true } }).any
      (fun t => t.counters.broken == 1 && t.peers == [] && t.line.latched == none) = true := by decide +kernel

/-- Station 17 with its target of 4 and a quiet count. -/
def counting (count : Nat) : State :=
  { deferring with line := { station.line with quietCount := some count, nextStep := 1000, target := some 4 } }

theorem test_quiet_count_steps :
    (outcome .quietCountStep (counting 3)).any (fun t => t.line.quietCount == some 4 && t.line.nextStep == 1080) = true := by
  decide +kernel

theorem test_quiet_count_stops_at_63 :
    (outcome .quietCountStep (counting 63)).any (fun t => t.line.quietCount == some 63) = true := by decide +kernel

/-- Activity in the moment in which the target is reached is passed over, its quiet count step taken or not
(R139). -/
theorem test_activity_ends_deferral :
    ([(2, false), (3, true), (4, true)].all fun c =>
      (outcome .activityBegins (counting c.1)).any
        (fun t => t.line.condition == .busy && t.line.passedOver == c.2 && t.line.target == none &&
          t.line.quietCount == none)) = true := by decide +kernel

theorem test_break_is_noted :
    (outcome .breakHeard deferring).any (fun t => t.line.breakNoted) = true := by decide +kernel

theorem test_stamp_point_latches :
    (outcome .stampPointOfIncomingFrame deferring).any (fun t => t.line.latched == some 1000) = true := by decide +kernel

theorem test_transmission_begins_at_target :
    (outcome .transmissionBegins (counting 4)).any (fun t => t.line.condition == .sending && t.queue.all (·.onLine)) = true ∧
    (outcome .transmissionBegins (counting 3)).any (fun t => t.line.condition == .quiet) = true := by decide +kernel

/-- Station 17 sending its head frame since local time 840, 16 bit times before the present at 1 Mbit/s. -/
def sending (f : TxFrame) (rest : List TxFrame) (stamped : Option (Time × SyncState)) : State :=
  { deferring with
    queue := { f with onLine := true } :: rest
    line := { station.line with condition := .sending, quietCount := none, sendStart := 840, stamped := stamped } }

theorem test_own_stamp_is_inserted :
    (outcome .stampPointOfOwnFrame (sending (queued .stamp 0) [] none)).any
      (fun t => t.line.stamped == some (1000, .alone)) = true := by decide +kernel

/-- R130, R131: the start pattern's first cell, a 0, is dominant and then idle; its second, a 1, the
reverse. -/
theorem test_line_is_driven :
    ([840, 844, 845, 850, 855, 859].map fun now =>
      State.drivesLine { sending (queued .stamp 0) [] none with localTime := BitVec.ofNat 32 now }) =
      [true, true, false, false, true, true] := by decide +kernel

/-- The collision of the full queue's example: the frame stays at its place with attempt count 1. -/
theorem test_collision_keeps_place :
    (outcome .collision { sending (queued .mark 1) [queued .mark 2] none with queue :=
        [queued .reply 3, { queued .mark 1 with onLine := true }, queued .mark 2] }).any
      (fun t => t.queue.map (fun f => (f.age, f.attempts, f.onLine)) == [(3, 0, false), (1, 1, false), (2, 0, false)] &&
        t.counters.collisions == 1 && t.line.condition == .breaking && t.line.breakEnd == 1160) = true := by decide +kernel

theorem test_sixth_collision_abandons :
    (outcome .collision (sending { queued .mark 1 with attempts := 5 } [queued .mark 2] none)).any
      (fun t => t.queue.map (·.age) == [2] && t.counters.abandoned == 1 && t.line.backoff == none) = true := by decide +kernel

theorem test_break_is_released :
    (outcome .breakRelease { deferring with line := { deferring.line with condition := .breaking, breakEnd := 1000 } }).any
      (fun t => t.line.condition == .busy) = true := by decide +kernel

/-- A HELLO lasts 112 bit times, 1,120 ticks at 1 Mbit/s, and its clean end takes a STAMP with it. -/
theorem test_clean_end :
    (outcome .ownFrameCleanEnd
        { sending (queued .hello 0) [queued .stamp 1] (some (1000, .alone)) with localTime := 1960 }).any
      (fun t => t.queue == [] && t.finished && t.roster == [9, 22, 5, 17] && t.line.condition == .busy) = true := by
  decide +kernel

/-- The full queue of the example: R1, N1, A1 on the line, A2 to A13, S1. -/
def fullQueue : List TxFrame :=
  [queued .reply 0, queued .notice 1, { queued .mark 2 with onLine := true }] ++
    ((List.range 12).map fun n => queued .mark (n + 3)) ++ [queued .stamp 15]

theorem test_full_queue :
    let s : State := { station with queue := fullQueue, nextAge := 16 }
    let t := ((s.arrive .notice 28 0 [] false).arrive .mark 31 0 [] false).arrive .reply 28 0 [] false
    t.queue.map (·.age) = [0, 17, 1, 16, 2, 3, 4, 5, 6, 7, 8, 9, 10, 11, 12, 13] ∧
      t.counters.lostAnnouncements = 1 ∧ t.counters.lostMarks = 2 := by decide +kernel

/-! ### Commands and answers -/

theorem test_query_status :
    (outcome (.queryStatus (frame 28 9 [0, 0])) station).any
      (fun t => t.queue.map (·.payload) ==
        [[0, 0, 1, 1, 3, 0, 0, 0, 0, 0, 0, 2, 0, 0, 0, 0, 0x40, 0, 0, 0, 0]]) = true := by decide +kernel

theorem test_query_schedule :
    (outcome (.querySchedule (frame 28 9 [1, 1])) scheduled).any
      (fun t => t.queue.map (·.payload) ==
        [[1, 1, 3, 1, 28, 0, 8, 3, 2, 0, 0, 0, 0, 0x0B, 0xB8, 0, 0, 0, 0, 0, 0, 0, 0, 255]]) = true := by decide +kernel

theorem test_query_captures :
    (outcome (.queryCaptures (frame 28 9 [2, 0])) { station with captureLog := [⟨1, .fall, 3600, 40, .adrift⟩] }).any
      (fun t => t.queue.map (·.payload) == [[2, 0, 1, 1, 29, 0, 0, 0x0E, 0x10, 0, 40]]) = true := by decide +kernel

theorem test_query_peers :
    (outcome (.queryPeers (frame 28 9 [3, 0]))
        { tuned .locked 3 0 [(5, -7, 1, .locked)] with line := { station.line with latched := some 500 } }).any
      (fun t => t.queue.map (·.payload) ==
        [[3, 0, 2, 2, 5, 0xFF, 0xFF, 0xFF, 0xF9, 1, 1, 2, 0, 0, 0, 0, 28, 0, 0, 0, 0, 0, 0, 2, 0, 0, 0, 0]]) = true := by
  decide +kernel

theorem test_query_reactions_empty_slot :
    (outcome (.queryReactions (frame 28 9 [4, 5])) station).any
      (fun t => t.queue.map (·.payload) == [[4, 5, 24, 1, 5] ++ List.replicate 25 0]) = true := by decide +kernel

theorem test_query_counters :
    (outcome (.queryCounters (frame 28 9 [5, 56])) { station with counters := { crcErrors := 1, payloadRefusals := 7 } }).any
      (fun t => t.queue.map (·.payload) == [[5, 56, 69, 13, 0, 1] ++ List.replicate 22 0 ++ [0, 7]]) = true := by
  decide +kernel

theorem test_query_channels :
    (outcome (.queryChannels (frame 28 9 [6, 6])) (generating .running true none 2000000)).any
      (fun t => t.queue.map (·.payload) ==
        [[6, 6, 8, 1, 5, 160, 0, 0, 0, 0, 0, 0, 0, 0, 0, 0, 0x03, 0xE8, 0, 250, 0, 0, 0, 0, 0, 0x1E, 0x84, 0x80,
          0, 0, 0, 0]]) = true := by decide +kernel

theorem test_query_unknown_topic :
    (outcome (.queryUnknownTopic (frame 28 9 [7, 0])) station).any
      (fun t => t.queue.map (·.payload) == [[8, 3, 8, 0, 0, 0]] && t.counters.payloadRefusals == 1) = true := by
  decide +kernel

theorem test_clear_counters :
    (outcome (.clearCounters (frame 28 9 [1])) { station with counters := { collisions := 5 }, markNumber := 40 }).any
      (fun t => t.counters.collisions == 0 && t.markNumber == 40) = true := by decide +kernel

/-- An addressed RESTART waits for its reply; a broadcast one takes effect at once (R174, R175). -/
theorem test_restart :
    (outcome (.restart (frame 28 9 [3])) scheduled).any
      (fun t => t.station == .active && t.restartPending && t.queue.map (·.restartReply) == [true]) = true ∧
    (outcome (.restart (frame 28 31 [3])) scheduled).any
      (fun t => t.station == .listening && t.schedule == [] && t.queue == [] && t.channels[3].hold == some .restart) =
      true := by decide +kernel

/-! ### Start-up -/

/-- An image for station 9 in the layout of R200, its check byte worked out by hand: 8 Mbit/s, reference
values, channels 0 to 3 held on loss, pair 0/1 with dead band 30, inputs RISING and publishing. -/
def image : List Byte :=
  ([0xA7, 1, 9, 3, 10, 5, 20, 0, 50, 20, 10, 0, 5] ++ (List.replicate 4 [8, 3, 0xE8, 0, 250]).flatten ++
    (List.replicate 4 [0, 3, 0xE8, 0, 250]).flatten ++ [1, 30, 0, 0, 0, 0, 0, 0] ++
    (List.replicate 4 [9, 1, 0xF4]).flatten ++ List.replicate 22 0 ++ [117]).map byteOf

/-- The station at a tick of its configuration read of a memory, CI1 high. -/
def readingAt (memory : List Byte) (tick : Nat) : State :=
  { State.reset with
    resetHeld := false
    reading := true
    localTime := BitVec.ofNat 32 tick
    cfgMemory := memory
    imageBits := (bytesBits memory).take ((tick + 2) / 4 - 24)
    inputPins := State.reset.inputPins.set 1 true }

/-- The end of its read of an image that passes, and of one with a wrong check byte. -/
def reading : State := readingAt image 3168

/-- An image with a wrong check byte. -/
def wrongImage : List Byte := image.dropLast ++ [0]

theorem test_image_passes :
    (outcome .configReadEnd reading).any
      (fun t => t.station == .listening && t.settings.station == 9 && t.settleNext == some 1003168 &&
        t.channels[0].hold == some .start && t.channels[4].hold == none && t.inputs[1].level && !t.faultPin &&
        t.imageBits == []) = true := by
  decide +kernel

theorem test_wrong_check_byte :
    (outcome .configReadEnd (readingAt wrongImage 3168)).any
      (fun t => t.station == .configFault && t.faultPin && t.settings == Settings.blank && t.imageBits == []) = true := by
  decide +kernel

theorem test_power_on :
    (outcome .powerOn scheduled).any (fun t => t.station == .configuring && t.schedule == [] && t.localTime == 0) = true := by
  decide +kernel

theorem test_reset :
    (outcome .resetNAsserted scheduled).any (fun t => t.cfgSelPin && t.resetHeld && t.roster == []) = true := by
  decide +kernel

theorem test_read_begins :
    (outcome (.resetNReleased image) State.reset).any (fun t => t.reading && !t.cfgSelPin && t.cfgMemory == image) = true := by
  decide +kernel

/-- R181: the rising edges at ticks 98 and 102 take the image's first bits, 1 and 0 of 0xA7, and no bit comes in
between; the bits held grow by one. -/
theorem test_loader_clocks_in :
    ((readingAt image 97).tick.imageBits, (readingAt image 98).tick.imageBits, (readingAt image 101).tick.imageBits,
      (readingAt image 97).cfgDinPin) = ([true], [true], [true, false], true) := by decide +kernel

/-- A command waiting is taken before the station's own events; on an empty queue a tick passes. -/
theorem test_step_takes_command :
    (match step { station with pending := [.resetNAsserted, .powerOn] } with
      | .next t => t.pending == [.powerOn] && t.station == .configuring
      | .fault _ => false
      | .refused _ => false) = true := by decide +kernel

/-! ### Witnesses: for every statement with hypotheses, states that meet them -/

/-- A step that answers a next state. -/
theorem exists_step {s : State} (h : (match step s with | .next _ => true | .fault _ => false | .refused _ => false) = true) :
    ∃ t, step s = .next t := by
  split at h
  · exact ⟨_, ‹_›⟩
  all_goals cases h

theorem witness_StepTakesFrontCommand : ∃ (c : Instr) (rest : List Instr) (s : State), s.pending = c :: rest :=
  ⟨.powerOn, [], { station with pending := [.powerOn] }, rfl⟩

theorem witness_StepOnEmptyQueue :
    (∃ s c, State.pending s = [] ∧ s.ownEvent = some c) ∧
    (∃ s, State.pending s = [] ∧ s.ownEvent = none ∧ s.resetHeld = true) ∧
    (∃ s, State.pending s = [] ∧ s.ownEvent = none ∧ s.resetHeld = false) :=
  ⟨⟨overtaken, .settlePoint SettleAct.all, by decide +kernel⟩, ⟨State.reset, by decide +kernel⟩, ⟨station, by decide +kernel⟩⟩

theorem witness_WellFormedCommandsComplete :
    Instr.wellFormed (.arm armFrame) = true ∧ Instr.wellFormed (.arm (frame 5 9 [1])) = false := by decide +kernel

theorem witness_OnlySettlePointsMoveLineTime :
    ∃ (i : Instr) (s t : State), exec i s = .next t ∧ i ≠ .powerOn ∧ i ≠ .resetNAsserted ∧ (∀ o, i ≠ .settlePoint o) ∧
      ∀ k f o n, i ≠ .duplicateNumberFrame k f (some ⟨.settlePoint o, n⟩) :=
  ⟨.entryDue, station, _, rfl, by decide, by decide, fun _ h => (by cases h), fun _ _ _ _ h => (by cases h)⟩

/-- Reached at 0 and from 2^31 on, ahead from 1 to 2^31 − 1; the horizon and the reach limit at their
ends. -/
theorem witness_MomentsCompareByForwardDistance :
    (station.lineReached 1000 = true ∧ station.lineReached (1000 + 2147483648) = true) ∧
    (station.lineReached 1001 = false ∧ station.lineReached (1000 + 2147483647) = false) ∧
    (signedDiff 1000 999 = -1 ∧ signedDiff 0 2147483648 = -2147483648 ∧ signedDiff 0 2147483647 = 2147483647) ∧
    (∃ r, (station.arm 28 r).2 = .ok ∧ station.lineReached r.due = false ∧ station.aheadBy r.due = 50000000) ∧
    (station.beyondReach (entry 1 1 0 .toggle 0 100001000) = false ∧
      station.beyondReach (entry 1 1 0 .toggle 0 100001001) = true) :=
  ⟨by decide +kernel, by decide +kernel, by decide +kernel,
    ⟨⟨2, .toggle, 0, 50001000, 40, false, false, false, none⟩, by decide +kernel⟩, by decide +kernel⟩

/-- A settle point that steps 60,000,000 ticks back, in a station state: one of two entries is carried beyond the
reach limit and has a notify station, and the queue holds 15 frames. -/
def stepsBack (st : StationState) : State :=
  { tuned .alone 0 0 [(5, -120000000, 0, .locked)] with
    station := st
    schedule := [entry 28 7 2 .toggle 0 20000000, { entry 28 8 3 .toggle 0 50100000 with notify := some 4 }]
    queue := (List.range 15).map fun n => queued .mark n
    nextAge := 15 }

/-- Steps forward and backward, large (50,000,001) and just not (50,000,000), and none, with an entry ahead, an
entry overtaken and a generator running; and the same without the entry that a forward step overtakes. -/
theorem witness_SettlePointCompletes :
    (∀ x ∈ [50000000, 50000001, -50000000, -50000001, 0, 700], ∀ far ∈ [[], [entry 28 8 3 .toggle 0 100100]],
      ∃ (order : List SettleAct) (s : State) (u : Time),
      (Instr.settlePoint order).wellFormed = true ∧ s.station.receives = true ∧ s.settleNext = some u ∧
      s.localReached u = true ∧ s.ScheduleLaw ∧ s.settleNews = ⟨x, false⟩ ∧ s.schedule = far ++ [entry 28 7 2 .toggle 0 60000000] ∧
      s.channels[(6 : Fin 8)].gen = .running) ∧
    (∀ st ∈ [StationState.active, .listening, .silenced],
      (stepsBack st).station = st ∧ (stepsBack st).settleExpires = true ∧ (stepsBack st).settleNews.change = -60000000 ∧
      (stepsBack st).queueShutFrom = none ∧
      (stepsBack st).listenCount + 1 < (stepsBack st).settings.listenTime ∧
      (outcome (.settlePoint SettleAct.all) (stepsBack st)).any (fun t =>
        (stepsBack st).queue.length +
          ((stepsBack st).schedule.countP fun e =>
            e.notify.isSome && !decide (1 ≤ t.aheadBy e.due ∧ t.aheadBy e.due ≤ 100000000)) == 16) = true) := by
  refine ⟨?_, by decide +kernel⟩
  intro x hx far hf
  refine ⟨SettleAct.all,
    { tuned .alone 0 0 [(5, 2 * x, 0, .locked)] with
      schedule := far ++ [entry 28 7 2 .toggle 0 60000000]
      channels := station.channels.set 6 { Channel.blank with gen := .running, activeSet := ⟨1000, 250⟩ } }, 100000, ?_⟩
  simp only [List.mem_cons, List.not_mem_nil, or_false] at hx hf
  rcases hx with rfl | rfl | rfl | rfl | rfl | rfl <;> rcases hf with rfl | rfl <;> decide +kernel

/-- Settle points of one value, and of two with delta at and beyond the step limit of 50, in each sync
state: half of the one sample. -/
def corrections : List State :=
  [tuned .locked 3 0 [], tuned .alone 0 0 [(5, 1000000, 0, .locked)], tuned .acquiring 1 0 [(5, -7, 0, .alone)],
    tuned .locked 3 0 [(5, 102, 0, .locked)], tuned .locked 3 0 [(5, -102, 0, .locked)],
    tuned .adrift 3 1 [(5, 100, 1, .adrift)], tuned .adrift 3 1 [(5, -100, 0, .locked)]]

theorem witness_CorrectionFollowsR12 :
    (corrections.all fun s => (outcome (.settlePoint SettleAct.all) s).isSome && s.settleExpires) = true ∧
    corrections.map (fun s => (s.valueList.length, s.sync, s.settleDelta)) =
      [(1, .locked, 0), (2, .alone, 500000), (2, .acquiring, -3), (2, .locked, 51), (2, .locked, -51), (2, .adrift, 50),
        (2, .adrift, -50)] := by decide +kernel

/-- Settle points at every row of R14 to R17, delta at 20 (in window) and at 21 (out of it). -/
def transitions : List State :=
  [tuned .alone 0 0 [], tuned .acquiring 2 0 [], tuned .locked 3 0 [], tuned .adrift 3 2 []] ++
    [40, 42].flatMap fun x =>
      [tuned .alone 0 0 [(5, x, 0, .locked)], tuned .acquiring 1 0 [(5, x, 0, .locked)],
        tuned .acquiring 2 0 [(5, x, 0, .locked)], tuned .locked 3 0 [(5, x, 0, .locked)],
        tuned .adrift 3 1 [(5, x, 0, .locked)], tuned .adrift 3 2 [(5, x, 0, .locked)]]

theorem witness_SyncStateFollowsTable :
    (transitions.all fun s =>
      (outcome (.settlePoint SettleAct.all) s).isSome && s.settleExpires && decide s.SyncLaw) = true ∧
    transitions.map (fun s => (s.valueList.length, s.settleDelta)) =
      List.replicate 4 (1, 0) ++ List.replicate 6 (2, 20) ++ List.replicate 6 (2, 21) := by decide +kernel

theorem witness_OneStationCannotPull :
    ∃ (values : List Int) (v a b : Int), 4 ≤ values.length ∧ v ∈ values ∧ ∀ x ∈ values.erase v, a ≤ x ∧ x ≤ b :=
  ⟨[0, 12, -7, 1000], 1000, -7, 12, by decide⟩

theorem witness_LossOfLockHolds :
    ∃ (order : List SettleAct) (s t : State) (c : Fin 8), exec (.settlePoint order) s = .next t ∧
      (Instr.settlePoint order).wellFormed = true ∧ s.settleExpires = true ∧ s.station ≠ .silenced ∧
      s.inLock = true ∧ t.inLock = false ∧ s.holdsOnLoss c = true := by
  obtain ⟨t, h, ht⟩ :=
    exists_next (i := .settlePoint SettleAct.all) (s := tuned .locked 3 0 []) (fun t => !t.inLock) (by decide +kernel)
  exact ⟨_, _, t, 0, h, by decide, by decide +kernel, by decide, by decide, by simpa using ht, by decide +kernel⟩

/-- A station that meets every law, with entries, a reaction, a record, a frame on the line and an enabled
pair, and a command waiting. -/
def lawful : State :=
  { tuned .locked 3 0 [(5, 12, 1, .locked)] with
    pending := [.arm armFrame]
    settings := { values with pairs := values.pairs.set 1 ⟨true, 30⟩ }
    schedule := [entry 28 7 2 .toggle 0 100000, entry 28 8 3 .toggle 0 100200]
    slots := station.slots.set 0 (some (slot (some 5) 0 .toggle 0 20000 100 .drop .replace))
    captureLog := [⟨0, .rise, 5, 0, .alone⟩, ⟨0, .rise, 9, 1, .alone⟩]
    markNumber := 2
    queue := [queued .reply 1, { queued .mark 0 with onLine := true }]
    nextAge := 2
    line := { station.line with condition := .sending, quietCount := none }
    channels := (station.channels.set 6
        { Channel.blank with
          gen := .running
          activeSet := ⟨1000, 250⟩
          frameStart := 99800
          highEnd := 100050
          frameEnd := 100800 }) }

/-- The premises of every statement that a step keeps a law. -/
theorem witness_StepsKeepLaws :
    (lawful.ScheduleLaw ∧ lawful.TemplateLaw ∧ lawful.QueueLaw ∧ lawful.QuietStationLaw) ∧
    (lawful.LogLaw ∧ lawful.TagLaw ∧ lawful.RosterLaw ∧ lawful.HoldLaw) ∧
    (lawful.PairLaw ∧ lawful.SyncLaw ∧ lawful.GeneratorLaw ∧ lawful.ConfigurationLaw) ∧
    (lawful.FollowLaw ∧ lawful.InputLaw ∧ lawful.LoaderLaw) ∧ ∃ t, step lawful = .next t :=
  ⟨by decide +kernel, by decide +kernel, by decide +kernel, by decide +kernel, exists_step (by decide +kernel)⟩

/-- The loader's law within the read, at a rising edge, and at the read's end. -/
theorem witness_LoaderLaw :
    ∀ tick ∈ [97, 98, 3168], (readingAt image tick).ConfigurationLaw ∧ (readingAt image tick).LoaderLaw ∧
      ∃ t, step (readingAt image tick) = .next t := by
  intro tick h
  simp only [List.mem_cons, List.not_mem_nil, or_false] at h
  rcases h with rfl | rfl | rfl
  all_goals exact ⟨by decide +kernel, by decide +kernel, exists_step (by decide +kernel)⟩

theorem witness_SettingsLaw : lawful.QuietStationLaw ∧ lawful.SettingsLaw :=
  ⟨by decide +kernel, fun _ => show lawful.settings.Legal by decide +kernel⟩

/-- Entry A of section 2.8's example, counted and endless, reached 150 ticks ago, and just now. -/
theorem witness_RepeatSkipsAsTheLoop :
    (∃ (now : Time) (e : Entry) (r : Repetition) (fuel : Nat), e.repetition = some r ∧ r.inBounds ∧
      isReached now e.due = true ∧ ticksSince now e.due / r.interval + 1 < fuel ∧ r.remaining = some 1) ∧
    (∃ (now : Time) (e : Entry) (r : Repetition) (fuel : Nat), e.repetition = some r ∧ r.inBounds ∧
      isReached now e.due = true ∧ ticksSince now e.due / r.interval + 1 < fuel ∧ r.interval = 10) :=
  ⟨⟨1000000, { entry 12 7 2 .pulse 500 1000000 with repetition := some ⟨50000000, some 1⟩ }, ⟨50000000, some 1⟩, 2, by decide +kernel⟩,
    ⟨1000150, { entry 12 7 2 .pulse 500 1000000 with repetition := some ⟨10, none⟩ }, ⟨10, none⟩, 17, by decide +kernel⟩⟩

/-- Channels 8, 7 and 0, an ARM that is refused, and its frame. -/
theorem witness_ArmChecksInOrder :
    (∃ f r, f.wellFormed .arm = true ∧ station.Takes .arm f ∧ parseArm f.payload = some r ∧ f.sender = 28 ∧
      (station.arm 28 r).2 = .badAction) ∧
    (∃ r : ArmRequest, 8 ≤ r.channel ∧ r.channel = 8) ∧
    (∃ (r : ArmRequest) (c : Fin 8), r.channel = c.val ∧ c = 7) ∧
    (∃ r : ArmRequest, (station.arm 28 r).2 ≠ .ok ∧ (station.arm 28 r).2 ≠ .replaced) :=
  ⟨⟨frame 28 9 [2, 4, 0, 0, 0, 1, 0, 0, 7, 208, 0, 40], ⟨2, .burst, 1, 2000, 40, false, false, false, none⟩, by decide +kernel⟩,
    ⟨⟨8, .toggle, 0, 2000, 40, false, false, false, none⟩, by decide⟩,
    ⟨⟨7, .toggle, 0, 2000, 40, false, false, false, none⟩, 7, by decide⟩,
    ⟨⟨2, .burst, 0, 2000, 40, false, false, false, none⟩, by decide +kernel⟩⟩

/-- A new entry and a replaced one, due ahead by 1 tick and by the horizon, and late ok at the present and
before it, behind an entry of this moment. -/
theorem witness_ArmInsertsEntry :
    ([entry 28 7 2 .setHigh 0 1000, entry 28 8 2 .setHigh 0 1000].Pairwise fun a b =>
      signedDiff 1000 a.due ≤ signedDiff 1000 b.due) ∧
    ∀ due ∈ [1001, 50001000, 1000, 900], ∀ held ∈ [[entry 28 7 2 .setHigh 0 1000], []],
      ∃ (f : Frame) (r : ArmRequest) (c : Fin 8),
      (f.wellFormed .arm = true ∧ parseArm f.payload = some r ∧ r.channel = c.val ∧ r.due = BitVec.ofNat 32 due) ∧
      (paramValid r.action r.param = true ∧ repeatValid r.repetition = true ∧ r.lateOk = true) ∧
      (∀ e ∈ held, ¬(e.origin = f.sender ∧ e.tag = r.tag)) ∧ held.length < 64 ∧
      ∀ s ∈ [{ station with schedule := held },
          { station with schedule := held ++ entry 28 41 3 .toggle 0 3000 :: [], sync := .locked }],
        s.Takes .arm f ∧ s.isPairOdd c = false ∧ actionValid s.settings.channels[c].mode r.action = true ∧
        (r.lock = true → s.inLock = true) ∧ s.ScheduleLaw ∧
        (s.lineReached r.due = true ∨ s.aheadBy r.due ≤ 50000000) := by
  refine ⟨by decide +kernel, fun due hd held hh => ?_⟩
  refine ⟨{ frame 28 9 [] with payload := [2, 1, 0, 4, 0, 0] ++ bytes32 (BitVec.ofNat 32 due) ++ [0, 41] },
    ⟨2, .setLow, 0, BitVec.ofNat 32 due, 41, false, false, true, none⟩, 2, ?_⟩
  simp only [List.mem_cons, List.not_mem_nil, or_false] at hd hh
  rcases hd with rfl | rfl | rfl | rfl <;> rcases hh with rfl | rfl <;> decide +kernel

/-- Two entries reached, the second of which requires the lock the station has not, and one ahead. -/
theorem witness_EntryDueTakesReachedEntriesInOrder :
    ∃ s : State, s.ScheduleLaw ∧ s.schedule.countP (fun e => s.lineReached e.due) = 2 ∧ s.schedule.length = 3 :=
  ⟨{ station with
      schedule :=
        [entry 28 7 2 .toggle 0 1000, { entry 28 8 2 .toggle 0 1000 with lockRequired := true },
          entry 28 9 2 .toggle 0 1001] },
    by decide +kernel⟩

/-- One reached entry: a plain one, one that requires lock, in lock and out of it, and repeating ones: the last
firing of a counted one, and an endless one with two repeats passed. -/
theorem witness_EntryFiresOrDrops :
    (∀ s ∈ [{ station with schedule := [entry 28 7 2 .toggle 0 1000, entry 28 8 2 .toggle 0 1001] },
        { station with schedule := [{ entry 28 7 2 .toggle 0 1000 with lockRequired := true }] },
        { station with sync := .locked, schedule := [{ entry 28 7 2 .pulse 5 1000 with lockRequired := true }] }],
      ∃ e rest, s.schedule = e :: rest ∧ s.lineReached e.due = true ∧ (∀ x ∈ rest, s.lineReached x.due = false) ∧
        e.repetition = none) ∧
    ∀ c ∈ [((1000 : Time), (⟨10, some 1⟩ : Repetition), false, 0), (979, ⟨10, none⟩, true, 2)],
      ∃ (s : State) (e : Entry) (next : Option (Time × Option Nat)), s.schedule = [e] ∧ e.due = c.1 ∧
        s.lineReached e.due = true ∧ e.lockRequired = false ∧ e.repetition = some c.2.1 ∧ c.2.1.inBounds ∧
        ticksSince s.lineTime e.due / c.2.1.interval + 1 < 5 ∧
        skipRepeats s.lineTime c.2.1.interval 5 (later e.due c.2.1.interval) (c.2.1.remaining.map (· - 1)) =
          (next, c.2.2.2) ∧ next.isSome = c.2.2.1 := by
  refine ⟨fun s hs => ?_, fun c hc => ?_⟩
  · simp only [List.mem_cons, List.not_mem_nil, or_false] at hs
    rcases hs with rfl | rfl | rfl
    all_goals exact ⟨_, _, rfl, by decide +kernel⟩
  · simp only [List.mem_cons, List.not_mem_nil, or_false] at hc
    rcases hc with rfl | rfl
    · exact ⟨{ station with schedule := [{ entry 28 7 2 .toggle 0 1000 with repetition := some ⟨10, some 1⟩ }] }, _, none, rfl,
        by decide +kernel⟩
    · exact ⟨{ station with schedule := [{ entry 28 7 2 .toggle 0 979 with repetition := some ⟨10, none⟩ }] }, _,
        some (1009, none), rfl, by decide +kernel⟩

/-- Origins 1 and 30, found and not found. -/
theorem witness_CancelByTagRemoves :
    ∀ origin ∈ [1, 30], ∃ (s : State) (f : Frame) (tag : Word16),
      (f.wellFormed .cancel = true ∧ natAt f.payload 0 = 0 ∧ s.Takes .cancel f ∧ f.payload.length = 4 ∧
        natAt f.payload 1 = origin ∧ word16At f.payload 2 = tag) ∧
      (∃ e, s.schedule = [] ++ e :: [] ∧ e.origin = origin ∧ e.tag = tag) ∧
      ({ s with schedule := [] } : State).Takes .cancel f := by
  intro origin h
  simp only [List.mem_cons, List.not_mem_nil, or_false] at h
  rcases h with rfl | rfl
  · exact ⟨{ station with schedule := [entry 1 7 2 .toggle 0 2000] }, frame 28 9 [0, 1, 0, 7], 7, by decide +kernel,
      ⟨_, rfl, by decide⟩, by decide +kernel⟩
  · exact ⟨{ station with schedule := [entry 30 7 2 .toggle 0 2000] }, frame 28 9 [0, 30, 0, 7], 7, by decide +kernel,
      ⟨_, rfl, by decide⟩, by decide +kernel⟩

/-- Channels 7 and 8, and both scopes of a flush. -/
theorem witness_CancelAndFlushRemoveInBulk :
    (∃ (f : Frame) (c : Fin 8), f.wellFormed .cancel = true ∧ scheduled.Takes .cancel f ∧
      f.payload = [1, BitVec.ofNat 8 c.val] ∧ c = 7) ∧
    (∃ (f : Frame) (b : Byte), 8 ≤ b.toNat ∧ f.wellFormed .cancel = true ∧ scheduled.Takes .cancel f ∧
      f.payload = [1, b] ∧ b = 8) ∧
    (∀ scope : Byte, scope = 0 ∨ scope = 1 →
      ∃ f : Frame, f.wellFormed .control = true ∧ scheduled.Takes .control f ∧ f.payload = [2, scope]) :=
  ⟨⟨frame 28 9 [1, 7], 7, by decide +kernel⟩, ⟨frame 28 9 [1, 8], 8, by decide +kernel⟩, by
    rintro scope (rfl | rfl)
    · exact ⟨frame 28 9 [2, 0], by decide +kernel⟩
    · exact ⟨frame 28 9 [2, 1], by decide +kernel⟩⟩

/-- A held channel, and an unheld one with and without a pulse, with and without a burst. -/
theorem witness_LatchPulseAndBurstActions :
    held.isHeld 2 = true ∧ (station.isHeld 2 = false ∧ station.channels[(2 : Fin 8)].pulse = none) ∧
    ((bursting ⟨65535, true, 1000⟩).isHeld 1 = false ∧
      (bursting ⟨65535, true, 1000⟩).channels[(1 : Fin 8)].burst = some ⟨65535, true, 1000⟩) ∧
    (∃ p, (paired (some p) true true false none 1100).isHeld 2 = false ∧
      (paired (some p) true true false none 1100).channels[(2 : Fin 8)].pulse = some p) :=
  ⟨by decide +kernel, by decide +kernel, by decide +kernel, ⟨⟨true, 1100⟩, by decide +kernel⟩⟩

theorem witness_BurstLastsItsCycles : ∃ count k : Nat, 1 ≤ count ∧ k < 2 * count := ⟨1, 1, by decide⟩

/-- A generator in each of its states, with and without a pending set. -/
theorem witness_GeneratorActions :
    ∀ p ∈ [none, some (⟨400, 200⟩ : GenSet)], ∃ g : GenSet,
      ((generating .running true p 2000000).channels[(6 : Fin 8)].pendingSet.getD
        (generating .running true p 2000000).channels[(6 : Fin 8)].activeSet) = g ∧
      (generating .running true p 2000000).channels[(6 : Fin 8)].gen ≠ .stopped ∧
      (generating .stopped true p 2000000).channels[(6 : Fin 8)].gen = .stopped := by
  intro p hp
  simp only [List.mem_cons, List.not_mem_nil, or_false] at hp
  rcases hp with rfl | rfl
  all_goals exact ⟨_, rfl, by decide +kernel⟩

theorem witness_FrameSkipsAsTheLoop :
    ∃ (now : Time) (ch : Channel) (fuel : Nat), 1 ≤ ch.activeSet.period.toNat ∧ isReached now ch.frameStart = true ∧
      ch.highEnd = later ch.frameStart ch.activeSet.high.toNat ∧
      ch.frameEnd = later ch.frameStart ch.activeSet.period.toNat ∧ ch.framesPassed now < fuel :=
  ⟨2003500, (generating .running true none 2000000).channels[(6 : Fin 8)], 4, by decide +kernel⟩

/-- A pulse at its end, and a burst half at its end: ACTIVE, INACTIVE with cycles left, and the last. -/
theorem witness_PulseAndBurstHalvesEnd :
    (∃ (s : State) (c : Fin 8) (p : Pulse), s.channels[c].pulse = some p ∧ s.localReached p.stop = true ∧
      s.isPaired c = false ∧ s.isHeld c = false ∧ s.channels[c].burst = none) ∧
    (∀ b ∈ [(⟨2, true, 1000⟩ : Burst), ⟨2, false, 1000⟩, ⟨1, false, 1000⟩],
      (bursting b).channels[(1 : Fin 8)].burst = some b ∧ (bursting b).localReached b.stop = true) :=
  ⟨⟨{ station with channels := station.channels.set 2 { Channel.blank with pulse := some ⟨true, 1000⟩ } }, 2, ⟨true, 1000⟩,
    by decide +kernel⟩, by decide +kernel⟩

/-- A turn-on at its expiry; pairs held, not enabled and following, with D as before and changed, with a dead
band of 30 and of 0, and in the moment of an earlier change. -/
theorem witness_DeadBandExpiryTurnsOn :
    ((paired none false false false (some 1130) 1130).pairs[(1 : Fin 4)].drive.turnOn = some 1130 ∧
      (paired none false false false (some 1130) 1130).localReached 1130 = true) ∧
    (∀ d ∈ [true, false], (paired none d d (!d) none 1130).settings.pairs[(1 : Fin 4)] = ⟨true, 30⟩ ∧
      (paired none d d (!d) none 1130).isHeld (evenOf 1) = false ∧
      (paired none d d (!d) none 1130).channels[evenOf 1].baseDrive = false) ∧
    (∃ s : State, s.settings.pairs[(1 : Fin 4)] = ⟨true, 0⟩ ∧ s.isHeld (evenOf 1) = false ∧
      s.pairs[(1 : Fin 4)].moment = some s.localTime ∧ s.pairs[(1 : Fin 4)].before.d ≠ s.channels[evenOf 1].baseDrive) ∧
    (station.settings.pairs[(1 : Fin 4)].enabled = false ∧ held.isHeld (evenOf 1) = true) :=
  ⟨by decide +kernel, by decide +kernel,
    ⟨{ paired none false false true none 1130 with
        settings := { values with pairs := values.pairs.set 1 ⟨true, 0⟩ }
        pairs := station.pairs.set 1 ⟨⟨false, false, true, none⟩, some 1130, ⟨true, true, false, none⟩⟩ },
      by decide +kernel⟩, by decide +kernel⟩

/-- High ends before and at the frame end, and frame ends of a RUNNING and of a STOPPING generator. -/
theorem witness_GeneratorFramesRun :
    (∀ now ∈ [2000250, 2001000], (generating .running true none now).channels[(6 : Fin 8)].gen ≠ .stopped ∧
      (generating .running true none now).channels[(6 : Fin 8)].phaseHigh = true ∧
      (generating .running true none now).lineReached (generating .running true none now).channels[(6 : Fin 8)].highEnd = true) ∧
    ((generating .running true none 2000250).lineReached 2001000 = false ∧
      (generating .running true none 2001000).lineReached 2001000 = true) ∧
    (∀ g ∈ [GenState.running, .stopping], ∀ high ∈ [false, true],
      (generating g high none 2001000).channels[(6 : Fin 8)].gen = g ∧
      (generating g high none 2001000).channels[(6 : Fin 8)].frameEnd = 2001000) := by decide +kernel

/-- Channel 8; the odd channel of a pair; a LEVEL channel; a period of 1, and a high time above its period; the
shortest period with a high time equal to it, on a RUNNING and on a STOPPED generator. -/
theorem witness_SetgenTakesSet :
    (∀ p ∈ [[8, 0, 2, 0, 2], [3, 0, 2, 0, 2], [2, 0, 2, 0, 2], [6, 0, 1, 0, 0], [6, 0, 2, 0, 3], [6, 0, 2, 0, 2]],
      (frame 28 9 p).wellFormed .setgen = true ∧
      ∀ g ∈ [GenState.running, .stopped], (generating g false none 2000600).Takes .setgen (frame 28 9 p)) ∧
    ((paired none false false false none 1000).Takes .setgen (frame 28 9 [3, 0, 2, 0, 2]) ∧
      (paired none false false false none 1000).isPairOdd 3 = true) ∧
    ((generating .running false none 2000600).isPairOdd 2 = false ∧
      (generating .running false none 2000600).settings.channels[(2 : Fin 8)].mode ≠ .generator) ∧
    (∀ g ∈ [GenState.running, .stopped], (generating g false none 2000600).isPairOdd 6 = false ∧
      (generating g false none 2000600).settings.channels[(6 : Fin 8)].mode = .generator ∧
      (generating g false none 2000600).channels[(6 : Fin 8)].gen = g) := by decide +kernel

/-- Channels held for a loss of lock and for another cause, and a pair held and released. -/
theorem witness_ReleaseHoldReleases :
    ∃ (f : Frame) (mask : Byte), f.wellFormed .control = true ∧ f.payload = [0, mask] ∧
      (held.Takes .control f ∧ held.HoldLaw) ∧
      ∃ s : State, s.Takes .control f ∧ s.HoldLaw ∧ s.settings.pairs[(1 : Fin 4)].enabled = true ∧
        s.isHeld (evenOf 1) = true ∧ s.releaseNames mask (evenOf 1) = true ∧ s.inLock = true :=
  ⟨frame 28 9 [0, 6], 6, by decide +kernel, by decide +kernel, by decide +kernel,
    { paired none false false false none 1000 with
      sync := .locked
      channels :=
        (station.channels.set 2 { Channel.blank with hold := some .loss }).set 3 { Channel.blank with hold := some .loss } },
    by decide +kernel⟩

theorem witness_PairNeverDrivesBoth :
    ∃ (s : State) (p : Fin 4), s.PairLaw ∧ s.settings.pairs[p].enabled = true ∧ ∃ t, step s = .next t :=
  ⟨lawful, 1, by decide +kernel, by decide +kernel, exists_step (by decide +kernel)⟩

/-- A suppressed edge, RISE_4 one short of its limit, RISE_16 too, an uninteresting edge, a level already held,
a second sample in a tick, a station that does not sample, a hold-off at its end. -/
theorem witness_EdgesThatCaptureNothing :
    ((sampling 1 (some 1500) 1300).station.samples = true ∧
      (sampling 1 (some 1500) 1300).inputs[(1 : Fin 4)].level = (Edge.rise == .fall) ∧
      (sampling 1 (some 1500) 1300).inputs[(1 : Fin 4)].sampled = false ∧
      (sampling 1 (some 1500) 1300).settings.inputs[(1 : Fin 4)].mode.interested .rise = true ∧
      (sampling 1 (some 1500) 1300).inputs[(1 : Fin 4)].holdOffEnd = some 1500) ∧
    ((sampling 2 none 3600).settings.inputs[(1 : Fin 4)].mode = .rise4 ∧
      (sampling 2 none 3600).inputs[(1 : Fin 4)].holdOffEnd = none ∧
      (sampling 2 none 3600).inputs[(1 : Fin 4)].prescale + 1 < 4) ∧
    (∃ s : State, s.station.samples = true ∧ s.inputs[(1 : Fin 4)].level = (Edge.rise == .fall) ∧
      s.inputs[(1 : Fin 4)].sampled = false ∧ s.settings.inputs[(1 : Fin 4)].mode = .rise16 ∧
      s.inputs[(1 : Fin 4)].holdOffEnd = none ∧ s.inputs[(1 : Fin 4)].prescale + 1 < 16) ∧
    (sampling 2 none 3600).settings.inputs[(1 : Fin 4)].mode.interested .fall = false ∧
    (sampling 2 none 3600).inputs[(1 : Fin 4)].level = (Edge.fall == .rise) ∧
    (∃ s : State, s.station.samples = true ∧ s.inputs[(1 : Fin 4)].sampled = true) ∧
    State.reset.station.samples = false ∧ (sampling 1 (some 1500) 1500).localReached 1500 = true :=
  ⟨by decide +kernel, by decide +kernel,
    ⟨{ sampling 14 none 3600 with settings := { values with inputs := values.inputs.set 1 ⟨.rise16, 0, false⟩ } },
      by decide +kernel⟩, by decide +kernel, by decide +kernel,
    ⟨{ station with inputs := station.inputs.set 1 ⟨false, 0, none, 0, true⟩ }, by decide +kernel⟩, by decide +kernel,
    by decide +kernel⟩

/-- An unprescaled capture, and the fourth accepted edge of RISE_4; a log with room and a full one; a publishing
input and one that does not publish; in each state that samples. -/
theorem witness_CapturedEdgeIsLogged :
    ∀ s ∈ [(sampling 3 none 3600, (1 : Fin 4)), ({ sampling 0 none 3600 with captureLog := List.replicate 32 ⟨0, .rise, 0, 0, .alone⟩ }, 0)],
      ∀ st ∈ [StationState.listening, .active, .silenced],
      st.samples = true ∧ s.1.inputs[s.2].level = (Edge.rise == .fall) ∧ s.1.inputs[s.2].sampled = false ∧
      s.1.settings.inputs[s.2].mode.interested .rise = true ∧ s.1.settings.inputs[s.2].publish = decide (s.2 = 0) ∧
      s.1.inputs[s.2].holdOffEnd = none ∧ s.1.settings.inputs[s.2].mode.divisor ≤ s.1.inputs[s.2].prescale + 1 := by
  decide +kernel

/-- A mark for this station, a bad one, one for another station, and one in SILENCED. -/
theorem witness_MarkAdvancesMatchingSlots :
    (∃ f : Frame, f.wellFormed .mark = true ∧ f.sender ≠ reacting.settings.station ∧ reacting.addressed f = false ∧
      reacting.station.receives = true ∧ ({ reacting with station := .silenced } : State).station.receives = true) ∧
    (markFrame.wellFormed .mark = true ∧ reacting.station = .active ∧ markFrame.sender ≠ reacting.settings.station ∧
      reacting.addressed markFrame = true ∧
      parseMark markFrame.sender markFrame.payload = some ⟨9, 0, .rise, 5000000, 7, .locked⟩) ∧
    (∃ (s : State) (m : Mark) (i : Fin 24) (r : Reaction),
      s.station = .active ∧ s.addressed markFrame = true ∧ markFrame.sender ≠ s.settings.station ∧
      parseMark markFrame.sender markFrame.payload = some m ∧ s.slots[i] = some r ∧ r.matchesMark m = true ∧
      ∀ j : Fin 24, j ≠ i → ∀ q ∈ s.slots[j], q.matchesMark m = false) ∧
    (∃ f : Frame, f.wellFormed .mark = true ∧ reacting.addressed f = true ∧ f.sender ≠ reacting.settings.station ∧
      parseMark f.sender f.payload = none) :=
  ⟨⟨frame 5 9 [0, 0, 0, 0, 0, 0, 0, 7, 2], by decide +kernel⟩, by decide +kernel,
    ⟨{ reacting with
        slots :=
          (station.slots.set 0 (some (slot (some 9) 1 .pulse 200 20000 100 .drop .replace))).set 2
            (some (slot (some 5) 4 .setLow 0 1000 102 .drop .replace)) },
      ⟨9, 0, .rise, 5000000, 7, .locked⟩, 0, slot (some 9) 1 .pulse 200 20000 100 .drop .replace, by decide +kernel⟩,
    ⟨frame 5 31 [4, 0, 0, 0, 0, 0, 0, 7, 2], by decide +kernel⟩⟩

/-- A match that arms nothing; one that arms, ahead by a tick and by the horizon, and at the present under
FIRE_NOW, with no entry of its tag held and with one to replace. -/
theorem witness_MatchTestsInOrder :
    (∃ (m : Mark) (r : Reaction) (i : Fin 24), (reacting.runMatch m r i).2 ≠ .armed) ∧
    ∀ c ∈ [(1, false), (50000000, false), (0, true)], ∀ held ∈ [[], [entry 9 103 3 .toggle 0 3000]],
      ∃ (m : Mark) (r : Reaction) (s : State),
        s = { station with schedule := held } ∧ r.delay = c.1 ∧ s.ScheduleLaw ∧
        (s.runMatch m r 4).2 = .armed ∧ s.lineReached (m.time + BitVec.ofNat 32 r.delay) = c.2 ∧
        (∀ x ∈ held, x.origin = s.settings.station ∧ x.tag = r.tag) := by
  refine ⟨⟨⟨9, 0, .rise, 5000000, 7, .locked⟩, slot (some 9) 5 .pulse 50 20000 103 .drop .keep, 4, by decide +kernel⟩, ?_⟩
  intro c hc held hh
  refine ⟨⟨9, 0, .rise, 1000, 7, .locked⟩, slot (some 9) 5 .toggle 0 c.1 103 .fireNow .replace, _, rfl, rfl, ?_⟩
  simp only [List.mem_cons, List.not_mem_nil, or_false] at hc hh
  rcases hc with rfl | rfl | rfl <;> rcases hh with rfl | rfl <;> decide +kernel

/-- Slots 23 and 24, channels 7 and 8; a paired channel, an action of another mode, a field out of range, a tag
held elsewhere; an INSTALL into an empty slot and into an occupied one. -/
theorem witness_InstallWritesSlot :
    ∃ (q : InstallRequest) (i : Fin 24) (c : Fin 8) (r : Reaction), installFrame.wellFormed .react = true ∧
      parseInstall installFrame.payload = some q ∧ q.slot = i.val ∧ q.channel = c.val ∧
      q.reaction 9 installFrame.sender c = some r ∧
      (∀ s ∈ [station, { station with slots := station.slots.set 0 (some r) }],
        s.Takes .react installFrame ∧ s.settings.station = 9 ∧ s.isPairOdd c = false ∧
        actionValid s.settings.channels[c].mode q.action = true ∧
        ∀ j : Fin 24, j ≠ i → ∀ x ∈ s.slots[j], x.tag ≠ q.tag) ∧
      (∃ s : State, s.Takes .react installFrame ∧ ∃ j : Fin 24, j ≠ i ∧ ∃ x, s.slots[j] = some x ∧ x.tag = q.tag) ∧
      (∃ p ∈ [List.replicate 27 (byteOf 0)], ∀ n ∈ [23, 24], ∀ m ∈ [7, 8], ∀ a ∈ [0, 4],
        (parseInstall (((p.set 1 (byteOf n)).set 7 (byteOf m)).set 8 (byteOf a))).any
          (fun q => q.slot == n && q.channel == m && (q.reaction 9 12 c).isNone) = true) ∧
      (paired none false false false none 1000).isPairOdd 3 = true ∧
      actionValid station.settings.channels[(7 : Fin 8)].mode .burst = false :=
  ⟨⟨0, 5, 0, some .rise, 255, 0, 0, .pulse, 200, 20000, none, true, .drop, .replace, 12, 100⟩, 0, 0,
    { slot (some 5) 0 .pulse 200 20000 100 .drop .replace with lockRequired := true, notify := some 12 }, by decide +kernel,
    by decide +kernel, rfl, rfl, by decide +kernel, by decide +kernel,
    ⟨{ station with slots := station.slots.set 23 (some (slot none 0 .toggle 0 0 100 .drop .keep)) }, by decide +kernel, 23,
      by decide, slot none 0 .toggle 0 0 100 .drop .keep, by decide +kernel⟩,
    ⟨_, List.mem_cons_self .., by decide +kernel⟩, by decide +kernel, by decide +kernel⟩

/-- Slots 23 and 24, an occupied slot and an empty one. -/
theorem witness_RemoveEmptiesSlot :
    (∃ (f : Frame) (b : Byte), f.wellFormed .react = true ∧ lawful.Takes .react f ∧ 24 ≤ b.toNat ∧ f.payload = [1, b] ∧
      b = 24) ∧
    (∃ (f : Frame) (i : Fin 24), f.wellFormed .react = true ∧ lawful.Takes .react f ∧
      f.payload = [1, BitVec.ofNat 8 i.val] ∧ lawful.slots[i] = none ∧ i = 23) ∧
    (∃ (f : Frame) (i : Fin 24) (r : Reaction), f.wellFormed .react = true ∧ lawful.Takes .react f ∧
      f.payload = [1, BitVec.ofNat 8 i.val] ∧ lawful.slots[i] = some r ∧ lawful.TagLaw) :=
  ⟨⟨frame 5 9 [1, 24], 24, by decide +kernel⟩, ⟨frame 5 9 [1, 23], 23, by decide +kernel⟩,
    ⟨frame 5 9 [1, 0], 0, slot (some 5) 0 .toggle 0 20000 100 .drop .replace, by decide +kernel⟩⟩

/-- A latched time, a HELLO, a STAMP, a foreign answer and a command for another station. -/
theorem witness_FramesFeedPeersAndRoster :
    (listening.station.receives = true ∧ listening.line.latched = some 480) ∧
    ((frame 5 31 []).sender ≠ listening.settings.station ∧ (frame 5 31 []).wellFormed .hello = true ∧
      (frame 5 31 []).wellFormed .stamp = true) ∧
    ((frame 17 5 [4, 0, 0, 0, 0, 0]).wellFormed .reply = true ∧ (frame 17 5 [1, 0, 0, 0]).wellFormed .report = true) ∧
    (FrameKind.isCommand .setgen = true ∧ (frame 17 5 [6, 1, 0, 0, 0]).wellFormed .setgen = true ∧
      listening.addressed (frame 17 5 [6, 1, 0, 0, 0]) = false) := by decide +kernel

/-- ACTIVE and sending, and SILENCED; a step of each kind overtaken, a command new and a repeat and QUERYs of topics 6
and 7, at a station with an enabled pair that follows D, and a CANCEL whose entry has a notify station. -/
theorem witness_DuplicateNumberSilences :
    (∀ o ∈ [OvertakenStep.entryDue, .settlePoint SettleAct.all, .captureEdge 0 .rise true, .delivered .arm armFrame],
      o.wellFormed = true ∧ lawful.QueueLaw) ∧
    (∃ g a b e, g.wellFormed .cancel = true ∧ natAt g.payload 0 = 0 ∧ scheduled.Takes .cancel g ∧ g.payload.length = 4 ∧
      natAt g.payload 1 = e.origin ∧ word16At g.payload 2 = e.tag ∧ 1 ≤ e.origin ∧ e.origin ≤ 30 ∧
      scheduled.schedule = a ++ e :: b ∧ (∀ x ∈ a ++ b, ¬(x.origin = e.origin ∧ x.tag = e.tag)) ∧
      e.notify = some 4 ∧ scheduled.QueueLaw) ∧
    ((frame 9 31 []).wellFormed .hello = true ∧ (frame 9 31 []).sender = lawful.settings.station ∧
      lawful.station = .active ∧ lawful.line.condition = .sending ∧
      ({ station with station := .silenced } : State).settings.station = 9) ∧
    (∀ c ∈ [(FrameKind.arm, armFrame), (.query, frame 28 9 [6, 0]), (.query, frame 28 9 [7, 0])],
      c.1.isCommand = true ∧ c.2.wellFormed c.1 = true ∧ c.2.destination = lawful.settings.station ∧
      c.2.sender ≠ lawful.settings.station) ∧
    (lawful.settings.station ≤ 30 ∧ lawful.FollowLaw ∧ lawful.settings.pairs[(1 : Fin 4)].enabled = true ∧
      lawful.isHeld (evenOf 1) = false) ∧
    (∃ ck body, commandBody .arm armFrame = some (ck, body) ∧ lawful.repeatOf ck armFrame = none ∧
      (State.repeatOf ck armFrame { lawful with peers := [⟨28, 0, 0, .alone, 0, some ⟨.arm, 3, .ok, 4⟩⟩] }).isSome =
        true) :=
  ⟨by decide +kernel,
    ⟨frame 28 9 [0, 4, 0, 1], [entry 28 7 2 .toggle 0 2000, entry 28 8 3 .toggle 0 3000], [], _, by decide +kernel,
      by decide +kernel, by decide +kernel, by decide +kernel, by decide +kernel, by decide +kernel, by decide +kernel,
      by decide +kernel, rfl, by decide +kernel, by decide +kernel, by decide +kernel⟩,
    by decide +kernel, by decide +kernel, by decide +kernel, .arm, armBody armFrame, rfl, by decide +kernel, by decide +kernel⟩

theorem witness_SettlePointAgesPeers :
    ∃ (order : List SettleAct) (s t : State), exec (.settlePoint order) s = .next t ∧ s.settleExpires = true ∧
      s.RosterLaw := by
  obtain ⟨t, h, -⟩ :=
    exists_next (i := .settlePoint SettleAct.all) (s := tuned .locked 3 0 [(5, 3, 4, .locked), (17, 3, 3, .locked)])
      (fun _ => true) (by decide +kernel)
  exact ⟨_, _, t, h, by decide +kernel, by decide +kernel⟩

/-- Quiet at the target, at a quiet count step one short of it, and two short of it; a stretch received. -/
theorem witness_StretchIsHeard :
    (∀ n ∈ [4, 3, 2], (counting n).line.condition = .quiet ∧ (counting n).station = .active ∧ (counting n).queue ≠ [] ∧
      (counting n).line.quietCount = some n ∧ (counting n).line.target = some 4 ∧
      (counting n).localReached (counting n).line.nextStep = true) ∧
    deferring.line.condition = .busy ∧ deferring.line.passedOver = false := by decide +kernel

/-- A stretch judged to be of each class, and one passed over; a lawful station whose target is at its
least. -/
theorem witness_LineGoesQuietJudges :
    deferring.line.condition = .busy ∧ deferring.line.passedOver = false ∧ deferring.line.breakNoted = false ∧
    judge false [] false = .broken ∧
    judge false (frameCells .hello (frame 5 31 [])) false = .clean .hello (frame 5 31 []) ∧
    judge false (startPattern ++ bytesBits ([5, 31, 16, 2, 0, 0, 0, 0, 0, 0, 0]) ++ endPattern) false = .crcError ∧
    judge false (startPattern ++ bytesBits ([5, 31, 16, 2, 0, 0, 0, 0, 33])) false = .malformed ∧
    ({ deferring with line := { deferring.line with passedOver := true } } : State).line.condition = .busy ∧
    lawful.RosterLaw ∧ lawful.beginQuiet.line.target = some 4 := by decide +kernel

/-- The target reached exactly and missed by one; the last step below 63; the stamp point; a break over. -/
theorem witness_DeferralAndSending :
    ((counting 4).station = .active ∧ (counting 4).line.condition = .quiet ∧ (counting 4).line.quietCount = some 4 ∧
      (counting 4).line.target = some 4 ∧ (counting 4).queue = queued .stamp 0 :: []) ∧
    ((counting 3).line.quietCount = some 3 ∧ (counting 62).localReached (counting 62).line.nextStep = true) ∧
    (station.queue = [] ∧ station.line.target = none ∧ station.line.condition = .quiet ∧
      deferring.line.condition ≠ .quiet ∧ deferring.line.quietCount = none) ∧
    ((sending (queued .stamp 0) [] none).line.stamped = none ∧
      (sending (queued .stamp 0) [] none).localReached
        (later (sending (queued .stamp 0) [] none).line.sendStart (2 * (sending (queued .stamp 0) [] none).settings.gapTicks)) = true ∧
      (sending (queued .stamp 0) [] none).frameOnLine = some { queued .stamp 0 with onLine := true }) := by decide +kernel

/-- A frame at its fifth collision, and at its sixth. -/
theorem witness_CollisionBreaksOff :
    ∀ n ∈ [4, 5], ∃ f rest, f.attempts = n ∧ f.onLine = true ∧
      (sending { queued .mark 1 with attempts := n } [queued .mark 2] none).queue = [] ++ f :: rest ∧
      (∀ g ∈ [] ++ rest, TxFrame.onLine g = false) ∧
      (sending { queued .mark 1 with attempts := n } [queued .mark 2] none).line.condition = .sending := by
  intro n hn
  exact ⟨{ queued .mark 1 with attempts := n, onLine := true }, [queued .mark 2], rfl, rfl, rfl, by decide, rfl⟩

theorem witness_CleanEndFinishesFrame :
    ∃ (s : State) (f : TxFrame), s.line.condition = .sending ∧ s.queue = [] ++ f :: [queued .stamp 1] ∧ f.onLine = true ∧
      s.line.stamped ≠ none ∧
      s.localReached (later s.line.sendStart ((14 + f.payload.length) * s.settings.gapTicks)) = true :=
  ⟨{ sending (queued .hello 0) [queued .stamp 1] (some (1000, .alone)) with localTime := 1960 },
    { queued .hello 0 with onLine := true }, by decide +kernel⟩

/-- A queue with room at 15, a full one with a victim, and a full one without. -/
theorem witness_ArrivalsArePlacedOrLost :
    (∃ s : State, s.QueueLaw ∧ s.station = .active ∧ s.queue.length = 15) ∧
    (∃ (s : State) (v : TxFrame), s.QueueLaw ∧ v ∈ s.queue ∧ s.station = .active ∧ s.queue.length = 16 ∧
      TxKind.cls .notice ≤ 1 ∧ v.onLine = false ∧ TxKind.cls .notice < v.kind.cls ∧
      ∀ g ∈ s.queue, g.onLine = false → g.kind.cls < v.kind.cls ∨ (g.kind.cls = v.kind.cls ∧ g.age ≤ v.age)) ∧
    (∃ s : State, s.QueueLaw ∧ s.station = .active ∧ s.queue.length = 16 ∧
      ∀ g ∈ s.queue, g.onLine = false → g.kind.cls ≤ TxKind.cls .notice) :=
  ⟨⟨{ sending (queued .mark 0) ((List.range 14).map fun n => queued .mark (n + 1)) none with nextAge := 16 }, by decide +kernel⟩,
    ⟨{ deferring with queue := fullQueue, nextAge := 16, line := { station.line with condition := .sending } }, queued .stamp 15,
      by decide +kernel⟩,
    ⟨{ deferring with queue := (List.range 16).map fun n => queued .notice n, nextAge := 16 }, by decide +kernel⟩⟩

/-- A settle point in ACTIVE with the finished flag clear and set, in LISTENING one short of the listen
time and at it, and in SILENCED. -/
theorem witness_ListenTimeAndStampDuty :
    ∀ s ∈ [tuned .alone 0 0 [], { tuned .alone 0 0 [] with finished := true },
        { tuned .alone 0 0 [] with station := .listening, roster := [] },
        { tuned .alone 0 0 [] with station := .listening, roster := [], listenCount := 1 },
        { tuned .alone 0 0 [] with station := .silenced, roster := [] }],
      (outcome (.settlePoint SettleAct.all) s).isSome = true ∧ s.settleExpires = true ∧ s.QuietStationLaw ∧
        s.queueShutFrom = none := by
  decide +kernel

/-- A command set aside, a repeat, and a payload refused, for one command of each family. -/
theorem witness_CommandsAreTakenOnce :
    (∀ st ∈ [StationState.listening, .silenced], ({ station with station := st } : State).addressed armFrame = true) ∧
    (Instr.arm armFrame).wellFormed = true ∧
    (station.FollowLaw ∧ ∀ p : Fin 4, station.pairs[p].moment ≠ some station.localTime) ∧
    (∃ r, ({ tuned .alone 0 0 [] with peers := [⟨28, 0, 0, .alone, 0, some r⟩] } : State).repeatOf .arm armFrame = some r) ∧
    ([(Instr.arm (frame 28 9 (List.replicate 12 9)), CommandKind.arm, (parseArm (List.replicate 12 9)).isNone),
        (.cancelByTag (frame 28 9 [2, 0]), .cancel, (parseCancelByTag [2, 0]).isNone),
        (.reactInstall (frame 28 9 [9, 0]), .react, (parseInstall [9, 0]).isNone),
        (.restart (frame 28 9 [3, 0]), .control, !restartFits [3, 0])].all fun c =>
      c.1.wellFormed && c.2.2 && decide (station.Takes c.2.1 (frame 28 9 []))) = true :=
  ⟨by decide +kernel, by decide +kernel, by decide +kernel, ⟨⟨.arm, 3, .ok, 4⟩, by decide +kernel⟩, by decide +kernel⟩

/-- A QUERY of each topic, addressed and broadcast, and one of an unknown topic. -/
theorem witness_QueriesAreReported :
    (∀ topic ∈ List.range 8, ∀ d ∈ [9, 31], (frame 28 d [topic, 0]).wellFormed .query = true ∧
      station.addressed (frame 28 d [topic, 0]) = true ∧ natAt (frame 28 d [topic, 0]).payload 0 = topic) ∧
    station.station = .active ∧ (frame 28 9 []).sender ≠ station.settings.station ∧
    (∀ st ∈ [StationState.listening, .silenced], ({ station with station := st } : State).addressed (frame 28 9 [0, 0]) = true ∧
      (Instr.queryStatus (frame 28 9 [0, 0])).wellFormed = true) := by decide +kernel

theorem witness_ClearCountersClears :
    ∃ f : Frame, f.wellFormed .control = true ∧ station.Takes .control f ∧ f.payload = [1] :=
  ⟨frame 28 9 [1], by decide +kernel⟩

/-- An addressed and a broadcast RESTART, with room for the reply and with none; one more while the first is
pending, and one whose reply displaces a NOTICE. -/
theorem witness_RestartTakesEffect :
    (∃ s : State, s.Takes .control (frame 28 9 [3]) ∧ s.restartPending = true) ∧
    (∃ (s : State) (v : TxFrame), s.Takes .control (frame 28 9 [3]) ∧ v ∈ s.queue ∧ s.restartPending = false ∧
      s.QueueLaw ∧ s.queue.length = 16 ∧ v.onLine = false ∧ 0 < v.kind.cls ∧
      ∀ g ∈ s.queue, g.onLine = false → g.kind.cls < v.kind.cls ∨ (g.kind.cls = v.kind.cls ∧ g.age ≤ v.age)) ∧
    ∀ d ∈ [9, 31], ∀ q ∈ [[], (List.range 16).map fun n => queued .reply n],
      (frame 28 d [3]).wellFormed .control = true ∧
      ({ station with queue := q } : State).Takes .control (frame 28 d [3]) ∧ (frame 28 d [3]).payload = [3] ∧
      station.restartPending = false ∧ station.queueShutFrom = none ∧ (∀ g ∈ q, g.restartReply = false ∧ g.kind.cls = 0) :=
  ⟨⟨{ station with restartPending := true }, by decide +kernel⟩,
    ⟨{ station with queue := ((List.range 15).map fun n => queued .reply n) ++ [queued .notice 15], nextAge := 16 },
      queued .notice 15, by decide +kernel⟩, by decide +kernel⟩

theorem witness_ResetDiscardsEverything :
    State.reset.resetHeld = true ∧ station.resetHeld = false ∧ image.length = 96 := by decide +kernel

/-- An image that passes and one that fails, at the end of the read. -/
theorem witness_ConfigurationReadDecides :
    (∀ m ∈ [image, wrongImage], m.length = 96 ∧ (readingAt m 3168).imageBits = bytesBits m ∧
      (readingAt m 3168).station = .configuring ∧ (readingAt m 3168).reading = true ∧
      (readingAt m 3168).localTime = 3168) ∧
    imagePasses image = true ∧ imagePasses wrongImage = false := by decide +kernel

/-- The first byte of an image and its last. -/
theorem witness_ConfiguredValuesStayLegal :
    imagePasses image = true ∧ ∀ k ∈ [0, 95], k < image.length ∧ byteAt image k ≠ 0 := by decide +kernel

/-- A change of the station state by each row of the table. -/
theorem witness_StationStateFollowsTable :
    ([(Instr.powerOn, station), (.resetNAsserted, station), (.configReadEnd, reading),
        (.configReadEnd, readingAt wrongImage 3168),
        (.settlePoint SettleAct.all, { tuned .alone 0 0 [] with station := .listening, listenCount := 1 }),
        (.duplicateNumberFrame .hello (frame 9 31 []) none, station),
        (.lineGoesQuiet (frameCells .hello (frame 17 31 [])) false false, deferring),
        (.lineGoesQuiet (frameCells .control (frame 28 31 [3])) false true, deferring), (.restart (frame 28 31 [3]), station),
        (.collision, sending { queued .reply 1 with attempts := 5, restartReply := true } [] none)].all fun c =>
      (outcome c.1 c.2).any (fun t => t.station != c.2.station) && decide c.2.QuietStationLaw) = true := by decide +kernel

/-- Every station state; a held channel; a pulse, a burst, a generator and a latch; an enabled pair; the line
driven by a break and by a frame's first and last cells, released and past its end. -/
theorem witness_PinsShowState :
    (∀ st ∈ [StationState.configuring, .configFault, .listening, .active, .silenced],
      ({ station with station := st } : State).station = st) ∧ held.isHeld 2 = true ∧
    (State.reset.ConfigurationLaw ∧ State.reset.station = .configuring) ∧
    (∃ p, (State.channels { station with channels := station.channels.set 0 { Channel.blank with pulse := some p } })[(0 : Fin 8)].pulse =
      some p) ∧
    ((bursting ⟨2, true, 1000⟩).isHeld 1 = false ∧ (bursting ⟨2, true, 1000⟩).isPaired 1 = false ∧
      (bursting ⟨2, true, 1000⟩).channels[(1 : Fin 8)].burst = some ⟨2, true, 1000⟩) ∧
    ((generating .running true none 2000000).isHeld 6 = false ∧ (generating .running true none 2000000).isPaired 6 = false) ∧
    ((paired none true true false none 1000).settings.pairs[(1 : Fin 4)].enabled = true ∧
      (paired none true true false none 1000).channels[evenOf 1].hold = none) ∧
    (∀ now ∈ [840, 1959, 1960], ∃ s : State, s.line.condition = .sending ∧ s.localTime = BitVec.ofNat 32 now ∧
      s.cellsOnLine.length = 112) :=
  ⟨by decide +kernel, by decide +kernel, by decide +kernel, ⟨⟨true, 1000⟩, by decide +kernel⟩, by decide +kernel,
    by decide +kernel, by decide +kernel, fun now _ =>
      ⟨{ sending (queued .hello 0) [] (some (1000, .alone)) with localTime := BitVec.ofNat 32 now }, rfl, rfl,
        (by decide +kernel : (sending (queued .hello 0) [] (some (1000, .alone))).cellsOnLine.length = 112)⟩⟩

theorem witness_FrameRoundTrip :
    ∀ k ∈ [FrameKind.hello, .stamp], ∀ n ∈ [1, 30], ∀ d ∈ [1, 31], (frame n d []).wellFormed k = true := by decide +kernel

/-- The last cell of a frame, and a tail after it. -/
theorem witness_WrongCellIsNeverClean :
    ∃ (f : Frame) (k : Nat) (b : Bool) (tail : List Bool), f.wellFormed .hello = true ∧
      (frameCells .hello f)[k]? = some b ∧ k = 111 ∧ tail ≠ [] :=
  ⟨frame 5 31 [], 111, true, [false], by decide +kernel⟩

end Sys2Proof.Tests
end

section
/-! SUPPORT. What one event can do to the station, said once as a chain of elementary updates (`Within`); a law
that each update keeps is kept by every command, and by every step. -/

namespace Sys2Proof.Machine

/-! ### The elementary updates -/

/-- The station states in which the schedule takes entries (R29, R92, R188). -/
abbrev State.Schedules (s : State) : Prop := s.station = .active ∨ s.station = .listening

/-- Entries are held where the law of a quiet station lets none be held. -/
abbrev State.Astray (s : State) : Prop := ¬s.Schedules ∧ s.schedule ≠ []

/-- A line condition that is neither OFF nor SENDING. -/
abbrev LineCondition.Rests (c : LineCondition) : Prop := c ≠ .off ∧ c ≠ .sending

/-- The frame on the line is given up at its last collision, before any restart it lets take effect (R142). -/
def State.giveUp (s : State) : State :=
  { s.startBreak with
    queue := s.queue.filter (!·.onLine)
    line := { s.startBreak.line with backoff := none }
    counters := { s.startBreak.counters with abandoned := bump s.startBreak.counters.abandoned } }

/-- The states that an event which finds the station in `s₀` can bring about, but for a reset and for the line
time unit's own work at a settle point: chains of elementary updates, each with what the model checks before it. -/
inductive Within (s₀ : State) : State → Prop
  | start : Within s₀ s₀
  /-- What no law of a station reads. -/
  | inert {s : State} (h : Within s₀ s) (channels : Vector Channel 8) (pairs : Vector Pair 4) (counters : Counters)
      (slots : Vector (Option Reaction) 24) (log : List CaptureRecord) (number : Word16) (draws listens : Nat)
      (finished : Bool) :
      Within s₀
        { s with
          channels := channels, pairs := pairs, counters := counters, slots := slots, captureLog := log
          markNumber := number, draws := draws, listenCount := listens, finished := finished }
  | line {s : State} (h : Within s₀ s) (v : LineInterface)
      (hc : v.condition = s.line.condition ∨ s.line.condition.Rests ∧ v.condition.Rests)
      (ht : v.target = none ∨ v.target = s.line.target ∨ s.station = .active)
      (hb : v.backoff = s.line.backoff) : Within s₀ { s with line := v }
  | inputs {s : State} (h : Within s₀ s) (inputs : Vector CaptureInput 4) (pins : Vector Bool 4)
      (hl : s.station.samples = true → (∀ i : Fin 4, s.inputs[i].level = s.inputPins[i]) →
        ∀ i : Fin 4, inputs[i].level = pins[i]) : Within s₀ { s with inputs := inputs, inputPins := pins }
  | schedule {s : State} (h : Within s₀ s) (entries : List Entry) (hs : s.Schedules ∨ s₀.Astray) :
      Within s₀ { s with schedule := entries }
  | arrive {s : State} (h : Within s₀ s) (kind : TxKind) (d : Nat) (q : BitVec 4) (p : List Byte) (r : Bool)
      (hk : kind = .stamp → ∀ g ∈ s.queue, g.kind ≠ .stamp) : Within s₀ (s.arrive kind d q p r)
  | activate {s : State} (h : Within s₀ s) (hl : s.station = .listening) :
      Within s₀ { s with station := .active, roster := moveToEnd s.settings.station s.roster }
  | receive {s : State} (h : Within s₀ s) (f : Frame) (hr : s.station.receives = true)
      (hf : 1 ≤ f.sender ∧ f.sender ≤ 30 ∧ f.sender ≠ s.settings.station) : Within s₀ (s.receive f)
  | agePeers {s : State} (h : Within s₀ s) : Within s₀ s.agePeers
  | writeRecord {s : State} (h : Within s₀ s) (n : Nat) (r : CommandRecord) : Within s₀ (s.writeRecord n r)
  | restartPending {s : State} (h : Within s₀ s) (b : Bool) (ha : s.station = .active) :
      Within s₀ { s with restartPending := b }
  | silence {s : State} (h : Within s₀ s) (hr : s.station.receives = true) : Within s₀ s.silence
  | takeRestart {s : State} (h : Within s₀ s) (hr : s.station.receives = true ∨ s.line.condition ≠ .off) :
      Within s₀ s.takeRestart
  | release {s : State} (h : Within s₀ s) (memory : List Byte) (hh : s.resetHeld = true) (hm : memory.length = 96) :
      Within s₀ { s with resetHeld := false, reading := true, imageBits := [], cfgMemory := memory }
  | acceptImage {s : State} (h : Within s₀ s) (image : List Byte) (hr : s.readComplete = true) :
      Within s₀ (s.acceptImage image)
  | refuseImage {s : State} (h : Within s₀ s) (hr : s.readComplete = true) : Within s₀ s.refuseImage
  | transmit (hr : s₀.readyToSend = true) :
      Within s₀
        { s₀ with
          queue := putHeadOnLine s₀.queue
          line :=
            { s₀.line with
              condition := .sending, quietCount := none, target := none, backoff := none
              sendStart := s₀.localTime, stamped := none } }
  | startBreak {s : State} (h : Within s₀ s) (hc : s.line.condition = .sending) (hf : s.frameOnLine = none) :
      Within s₀ s.startBreak
  | drawBackoff {s : State} (h : Within s₀ s) (f : TxFrame) (hc : s.line.condition = .sending)
      (hf : s.frameOnLine = some f) (ha : f.attempts + 1 < attemptLimit) : Within s₀ s.startBreak.drawBackoff
  | giveUp {s : State} (h : Within s₀ s) (hc : s.line.condition = .sending) : Within s₀ s.giveUp
  | finishFrame {s : State} (h : Within s₀ s) (hc : s.line.condition = .sending) : Within s₀ s.finishFrame

/-! ### What the longer updates leave, by field -/

@[simp] theorem StationState.receives_configuring : StationState.configuring.receives = false := rfl
@[simp] theorem StationState.receives_configFault : StationState.configFault.receives = false := rfl
@[simp] theorem StationState.receives_listening : StationState.listening.receives = true := rfl
@[simp] theorem StationState.receives_active : StationState.active.receives = true := rfl
@[simp] theorem StationState.receives_silenced : StationState.silenced.receives = true := rfl

/-- The inputs are sampled in the states in which frames are handed on (R84, R136). -/
theorem StationState.samples_eq_receives (c : StationState) : c.samples = c.receives := by cases c <;> rfl

/-- The entry into SILENCED, field by field (R188). -/
theorem State.silence_touches (s : State) :
    ∃ channels pairs counters,
      s.silence =
        { s with
          station := .silenced, restartPending := false, schedule := []
          channels := channels, pairs := pairs, counters := counters
          roster := s.roster.filter (· != s.settings.station), line := s.cutLine.line
          queue := [], finished := false } := by
  unfold State.silence State.emptyQueue State.cutLine State.holdAll State.enterHold
  exact ⟨_, _, _, rfl⟩

/-- A restart that takes effect, field by field (R191). -/
theorem State.takeRestart_touches (s : State) :
    ∃ channels pairs counters,
      s.takeRestart =
        { s with
          station := .listening, listenCount := 0, restartPending := false, schedule := []
          channels := channels, pairs := pairs, counters := counters
          peers := [], roster := [], line := s.cutLine.line, queue := [], finished := false, captureLog := []
          driftCount := 0, lockCount := if s.inLock then s.lockCount else 0 } := by
  unfold State.takeRestart State.emptyQueue State.cutLine State.holdAll State.enterHold
  exact ⟨_, _, _, rfl⟩

/-- An image that passes, field by field (R137, R185). -/
theorem State.acceptImage_touches (image : List Byte) (s : State) :
    ∃ channels pairs,
      s.acceptImage image =
        { s with
          station := .listening, listenCount := 0, restartPending := false, reading := false, imageBits := []
          settings := imageSettings image
          settleNext := some (later s.localTime (imageSettings image).settleInterval)
          line := { s.line with condition := .busy, passedOver := true }
          channels := channels, pairs := pairs
          inputs := Vector.ofFn fun i => { s.inputs[i] with level := s.inputPins[i], sampled := true } } := by
  unfold State.acceptImage State.initialInputs State.initialChannels State.endRead
  exact ⟨_, _, rfl⟩

/-- The cut of the line ends a deferral and the backoff held, and leaves no frame being sent (R143, R145). -/
theorem State.cutLine_line (s : State) : s.cutLine.line.target = none ∧ s.cutLine.line.backoff = none ∧
    s.cutLine.line.condition ≠ .sending ∧ (s.cutLine.line.condition = .off ↔ s.line.condition = .off) := by
  unfold State.cutLine
  split <;> simp_all

/-- A line at rest stays at rest when it is cut. -/
theorem State.cutLine_rests {s : State} (h : s.line.condition ≠ .off) : s.cutLine.line.condition.Rests :=
  ⟨fun e => h (s.cutLine_line.2.2.2.mp e), s.cutLine_line.2.2.1⟩

/-- An arrival leaves every field but the queue, the arrival number and the counters. -/
theorem State.arrive_station (kind : TxKind) (d : Nat) (q : BitVec 4) (p : List Byte) (r : Bool) (s : State) :
    (s.arrive kind d q p r).station = s.station := by
  obtain ⟨_, _, _, h⟩ := s.arrive_touches kind d q p r
  rw [h]

theorem State.fire_station (e : Entry) (s : State) : (s.fire e).station = s.station := by
  obtain ⟨_, _, _, _, _, h⟩ := s.fire_touches e
  rw [h]

namespace Within

variable {s₀ s : State}

/-- Entries stand where none may be held only if they did so before the event. -/
theorem astray (h : Within s₀ s) (ha : s.Astray) : s₀.Astray := by
  induction h with
  | start => exact ha
  | schedule h _ hs ih => exact hs.elim (fun h' => absurd h' ha.1) id
  | arrive h kind d q p r _ ih =>
    obtain ⟨_, _, _, e⟩ := State.arrive_touches kind d q p r _
    rw [e] at ha
    exact ih ha
  | activate => exact absurd (.inl rfl) ha.1
  | silence | takeRestart => exact absurd rfl ha.2
  | acceptImage => exact absurd (.inr rfl) ha.1
  | transmit => exact ha
  | refuseImage h hr ih =>
    refine ih ⟨?_, ha.2⟩
    simp_all [State.readComplete, State.Schedules]
  | _ => exact ‹State.Astray _ → _› ha

end Within
end Sys2Proof.Machine
end

section
/-! SUPPORT. Every operation of the schedule, the reaction table, the capture unit and the settle point is a chain of
elementary updates. -/

namespace Sys2Proof.Machine.Within

variable {s₀ s : State}

/-! ### Notices, firings, drops -/

theorem notice (h : Within s₀ s) (e : Entry) (o : NoticeOutcome) : Within s₀ (s.notice e o) := by
  unfold State.notice
  split
  · exact h
  · exact h.arrive _ _ _ _ _ nofun

theorem count (h : Within s₀ s) (n : Counters) : Within s₀ { s with counters := n } :=
  h.inert _ _ n _ _ _ _ _ _

theorem drop (h : Within s₀ s) (e : Entry) : Within s₀ (s.drop e) := (h.count _).notice e _

theorem takeAction (h : Within s₀ s) (c : Fin 8) (a : Action) (p : Word16) : Within s₀ (s.takeAction c a p) := by
  obtain ⟨ch, n, e⟩ := s.takeAction_touches c a p
  rw [e]
  exact h.inert ch _ n _ _ _ _ _ _

theorem afterFiring (h : Within s₀ s) (e : Entry) (hs : s.Schedules ∨ s₀.Astray) : Within s₀ (s.afterFiring e) := by
  unfold State.afterFiring
  dsimp only
  split
  · exact (h.count _).schedule _ hs
  · exact (h.count _).notice _ _

theorem fire (h : Within s₀ s) (e : Entry) (hs : s.Schedules ∨ s₀.Astray) : Within s₀ (s.fire e) := by
  unfold State.fire
  split
  · exact h.drop e
  · refine afterFiring (takeAction (h.count _) ..) _ ?_
    obtain ⟨_, _, e'⟩ := State.takeAction_touches e.channel e.action e.param
      { s with counters := { s.counters with fired := bump s.counters.fired } }
    rw [e']
    exact hs

theorem foldl_fire (h : Within s₀ s) (l : List Entry) (hs : s.Schedules ∨ s₀.Astray) :
    Within s₀ (l.foldl (fun t e => t.fire e) s) := by
  induction l generalizing s with
  | nil => exact h
  | cons e rest ih => exact ih (h.fire e hs) (by rwa [State.Schedules, State.fire_station])

theorem foldl_drop (h : Within s₀ s) (l : List Entry) : Within s₀ (l.foldl (fun t e => t.drop e) s) := by
  induction l generalizing s with
  | nil => exact h
  | cons e rest ih => exact ih (h.drop e)

theorem foldl_notice (h : Within s₀ s) (l : List Entry) (o : NoticeOutcome) :
    Within s₀ (l.foldl (fun t e => t.notice e o) s) := by
  induction l generalizing s with
  | nil => exact h
  | cons e rest ih => exact ih (h.notice e o)

/-- The schedule may be written, or is empty. -/
theorem schedules_or_empty (h : Within s₀ s) : (s.Schedules ∨ s₀.Astray) ∨ s.schedule = [] := by
  by_cases hs : s.Schedules
  · exact .inl (.inl hs)
  · by_cases he : s.schedule = []
    · exact .inr he
    · exact .inl (.inr (h.astray ⟨hs, he⟩))

theorem fireReached (h : Within s₀ s) : Within s₀ s.fireReached := by
  obtain hs | he := h.schedules_or_empty
  · exact foldl_fire (h.schedule _ hs) _ hs
  · have : s.fireReached = s := by simp [State.fireReached, he]; rw [← he]
    rwa [this]

theorem dropBeyondReach (h : Within s₀ s) : Within s₀ s.dropBeyondReach := by
  obtain hs | he := h.schedules_or_empty
  · exact foldl_drop (h.schedule _ hs) _
  · have : s.dropBeyondReach = s := by simp [State.dropBeyondReach, he]; rw [← he]
    rwa [this]

/-! ### Removing and arming -/

theorem removeEntries (h : Within s₀ s) (gone : Entry → Bool) (o : NoticeOutcome) (hs : s.Schedules) :
    Within s₀ (s.removeEntries gone o) := foldl_notice (h.schedule _ (.inl hs)) _ _

theorem armEntry (h : Within s₀ s) (e : Entry) (hs : s.Schedules) : Within s₀ (s.armEntry e) := by
  unfold State.armEntry
  split
  · exact fireReached (h.schedule _ (.inl hs))
  · exact h.schedule _ (.inl hs)

theorem replace_armEntry (h : Within s₀ s) (n : Nat) (tag : Word16) (e : Entry) (hs : s.Schedules) :
    Within s₀ ((s.replaceEntry n tag).armEntry e) := by
  refine armEntry (h.removeEntries _ _ hs) e ?_
  obtain ⟨_, _, _, e'⟩ := State.removeEntries_touches (·.named n tag) .replaced s
  rw [e']
  exact hs

theorem arm (h : Within s₀ s) (n : Nat) (r : ArmRequest) (hs : s.Schedules) : Within s₀ (s.arm n r).1 := by
  unfold State.arm State.armChecked
  repeat' split
  case h_2.isFalse.isFalse.isFalse.isFalse.isTrue => exact h.replace_armEntry _ _ _ hs
  case h_2.isFalse.isFalse.isFalse.isFalse.isFalse.isFalse => exact h.armEntry _ hs
  all_goals exact h

theorem armReaction (h : Within s₀ s) (r : Reaction) (i : Fin 24) (due : Time) (hs : s.Schedules) :
    Within s₀ (s.armReaction r i due).1 := by
  unfold State.armReaction
  dsimp only
  split
  · split
    · exact h.replace_armEntry _ _ _ hs
    · exact h
  · split
    · exact h
    · exact h.armEntry _ hs

/-! ### Marks and captures -/

theorem runMatch (h : Within s₀ s) (m : Mark) (r : Reaction) (i : Fin 24) (hs : s.Schedules) :
    Within s₀ (s.runMatch m r i).1 := by
  unfold State.runMatch
  dsimp only
  repeat' split
  case h_1 => exact h.armReaction _ _ _ hs
  case isFalse.isFalse.isFalse.isFalse => exact h.armReaction _ _ _ hs
  all_goals exact h

theorem markSlot (h : Within s₀ s) (m : Mark) (i : Fin 24) (hs : s.Schedules) : Within s₀ (s.markSlot m i) := by
  obtain ⟨-, e⟩ | ⟨r, -, -, e⟩ := State.markSlot_cases m i s
  · rwa [e]
  · rw [e]
    exact (h.runMatch m r i hs).inert _ _ _ _ _ _ _ _ _

theorem takeMark (h : Within s₀ s) (m : Mark) (hs : s.Schedules) : Within s₀ (s.takeMark m) := by
  unfold State.takeMark
  generalize List.finRange 24 = l
  induction l generalizing s with
  | nil => exact h
  | cons i rest ih =>
    refine ih (h.markSlot m i hs) ?_
    change (s.markSlot m i).Schedules
    obtain ⟨_, _, _, _, _, _, e⟩ := State.markSlot_touches m i s
    rw [e]
    exact hs

theorem publishMark (h : Within s₀ s) (r : CaptureRecord) : Within s₀ (s.publishMark r) := by
  unfold State.publishMark
  split
  · exact h.arrive _ _ _ _ _ nofun
  · exact h

theorem distribute (h : Within s₀ s) (r : CaptureRecord) (first : Bool) : Within s₀ (s.distribute r first) := by
  unfold State.distribute
  split <;> rename_i hs
  · split
    · refine (h.publishMark r).takeMark _ ?_
      obtain ⟨_, _, _, e⟩ := s.publishMark_touches r
      rw [e]
      exact .inl hs
    · exact (h.takeMark _ (.inl hs)).publishMark r
  · exact h.takeMark _ (.inr hs)
  all_goals exact h

/-- An input is written with the level it holds. -/
theorem setInput (h : Within s₀ s) (i : Fin 4) (v : CaptureInput) (hv : v.level = s.inputs[i].level) :
    Within s₀ (s.setInput i v) := by
  refine h.inputs _ s.inputPins fun _ hl j => ?_
  rw [← hl j]
  by_cases hj : j = i
  · subst hj; simpa using hv
  · simp [Fin.getElem_fin, Vector.getElem_set_ne _ _ (fun e => hj (Fin.ext e.symm))]

theorem edgeOfInterest (h : Within s₀ s) (i : Fin 4) (e : Edge) (first : Bool) :
    Within s₀ (s.edgeOfInterest i e first) := by
  have opened : Within s₀ (s.openHoldOff i) := h.setInput i _ rfl
  unfold State.edgeOfInterest
  split
  · exact h.setInput i _ rfl
  · split
    · exact distribute (opened.inert _ _ _ _ _ _ _ _ _) _ _
    · exact opened

theorem setLevel (h : Within s₀ s) (i : Fin 4) (level : Bool) : Within s₀ (s.setLevel i level) := by
  refine h.inputs _ _ fun _ hl j => ?_
  by_cases hj : j = i
  · subst hj; simp [State.drivePin]
  · simpa [State.drivePin, Fin.getElem_fin, Vector.getElem_set_ne _ _ (fun e => hj (Fin.ext e.symm))] using hl j

theorem drivePin (h : Within s₀ s) (i : Fin 4) (level : Bool) (hs : s.station.samples = false) :
    Within s₀ (s.drivePin i level) := h.inputs _ _ fun hs' => by simp [hs] at hs'

/-! ### Channels and pairs -/

theorem followPairs (h : Within s₀ s) : Within s₀ s.followPairs := h.inert _ _ _ _ _ _ _ _ _

theorem outputs (h : Within s₀ s) (channels : Vector Channel 8) (pairs : Vector Pair 4) :
    Within s₀ { s with channels := channels, pairs := pairs } := h.inert _ _ _ _ _ _ _ _ _

/-! ### The settle point -/

theorem stampDuty (h : Within s₀ s) : Within s₀ s.stampDuty := by
  unfold State.stampDuty
  dsimp only
  refine inert ?_ _ _ _ _ _ _ _ _ false
  split <;> rename_i hd
  · exact h.arrive _ _ _ _ _ fun _ => by simpa using hd.2.2
  · exact h

theorem countListen (h : Within s₀ s) : Within s₀ s.countListen := by
  unfold State.countListen
  split <;> rename_i hs
  · have counted : Within s₀ { s with listenCount := s.listenCount + 1 } := h.inert _ _ _ _ _ _ _ _ _
    dsimp only
    split
    · have joined := (counted.activate hs).arrive .hello 31 0 [] false nofun
      unfold State.activate
      dsimp only
      split <;> rename_i hq
      · refine joined.line _ (.inl rfl) (.inr (.inr ?_)) rfl
        rw [State.arrive_station]
      · exact joined
    · exact counted
  · exact h

theorem stepSchedule (h : Within s₀ s) (change : Int) : Within s₀ (s.stepSchedule change) := by
  unfold State.stepSchedule
  split
  · exact h.fireReached.dropBeyondReach
  · split
    · exact h.dropBeyondReach
    · exact h

theorem settleAct (h : Within s₀ s) (news : SettleNews) (a : SettleAct) : Within s₀ (s.settleAct news a) := by
  cases a with
  | agePeers => exact h.agePeers
  | stampDuty => exact h.stampDuty
  | listenCount => exact h.countListen
  | hold =>
    unfold State.settleAct
    dsimp only
    split
    · exact h.inert _ _ _ _ _ _ _ _ _
    · exact h
  | generators =>
    obtain ⟨ch, n, e⟩ := s.stepGenerators_touches news.change
    rw [State.settleAct, e]
    exact h.inert ch _ n _ _ _ _ _ _
  | schedule => exact h.stepSchedule _

theorem foldl_settleAct (h : Within s₀ s) (news : SettleNews) (order : List SettleAct) :
    Within s₀ (order.foldl (fun t a => t.settleAct news a) s) := by
  induction order generalizing s with
  | nil => exact h
  | cons a rest ih => exact ih (h.settleAct news a)

/-- After the line time unit's own work, a settle point is a chain of elementary updates (R8). -/
theorem settle (order : List SettleAct) (s : State) : Within s.settleUnit (s.settle order) :=
  (start.foldl_settleAct _ order).followPairs

end Sys2Proof.Machine.Within
end

section
/-! SUPPORT. Every command is a chain of elementary updates; a reset, a settle point and an overtaken step have a shape
of their own (`exec_within`). -/

namespace Sys2Proof.Machine

/-! ### Rows and frames -/

/-- The answer to a term is a next state exactly for a term that names a command. -/
theorem whenFormed_eq_next {i : Instr} {t u : State} : whenFormed i t = .next u ↔ i.wellFormed = true ∧ t = u := by
  cases h : i.wellFormed <;> simp [whenFormed, h]

/-- A well-formed frame's sender is a station number. -/
theorem sender_of_wellFormed {kind : FrameKind} {f : Frame} (h : f.wellFormed kind = true) :
    1 ≤ f.sender ∧ f.sender ≤ 30 := by
  simp only [Frame.wellFormed, Bool.and_eq_true, decide_eq_true_eq] at h
  exact ⟨h.1.1.1.1, h.1.1.1.2⟩

/-- A clean frame is handed on as the command of its row (R136). -/
theorem State.deliver_eq_exec_rowOf (kind : FrameKind) (f : Frame) (s : State) :
    s.deliver kind f = exec (rowOf s.settings.station kind f) s := by
  unfold State.deliver rowOf
  split
  · rfl
  · unfold State.deliverOther
    cases kind
    case hello | stamp | mark | report | reply | notice => rfl
    all_goals
      simp only [FrameKind.isCommand, Bool.true_and, State.addressed]
      cases f.destination == s.settings.station || f.destination == 31
      · rfl
    case arm.true | setgen.true => rfl
    case cancel.true | react.true =>
      by_cases hc : natAt f.payload 0 = 1 <;> simp only [hc, if_true, if_false] <;> rfl
    all_goals
      generalize natAt f.payload 0 = code
      match code with
      | 0 | 1 | 2 | 3 | 4 | 5 | 6 | n + 7 => rfl

/-- Neither a power-on, a reset nor a settle point is a frame's row, and no overtaken step comes with one. -/
theorem rowOf_frame? (own : Nat) (kind : FrameKind) (f : Frame) :
    (rowOf own kind f).frame? = some f ∧ ∀ k g o, rowOf own kind f ≠ .duplicateNumberFrame k g (some o) := by
  unfold rowOf
  split
  · simp [Instr.frame?]
  · cases kind <;> dsimp only <;> repeat' split
    all_goals simp [Instr.frame?]

namespace Within

variable {s₀ s : State}

/-! ### The hand-over of a frame, and the decoder -/

theorem dropLatched (h : Within s₀ s) : Within s₀ { s with line := { s.line with latched := none } } :=
  h.line _ (.inl rfl) (.inr (.inl rfl)) rfl

theorem duplicateFound (h : Within s₀ s) : Within s₀ s.duplicateFound := by
  unfold State.duplicateFound
  dsimp only
  split <;> rename_i hs
  case h_1 | h_2 => exact h.dropLatched.silence (by simp [hs, StationState.receives])
  case h_3 => exact h.dropLatched
  all_goals exact h

theorem handOver (h : Within s₀ s) {f : Frame} {next : State → State} (hf : 1 ≤ f.sender ∧ f.sender ≤ 30)
    (hn : ∀ {t}, Within s₀ t → Within s₀ (next t)) : Within s₀ (s.handOver f next) := by
  obtain ⟨-, e⟩ | ⟨-, -, e⟩ | ⟨hr, ho, e⟩ := State.handOver_cases f next s <;> rw [e]
  · exact h
  · exact h.duplicateFound
  · exact hn (h.receive f hr ⟨hf.1, hf.2, ho⟩)

theorem reply (h : Within s₀ s) (k : FrameKind) (f : Frame) (c : ResultCode) (dup : Bool) (d : Word16) (r : Bool) :
    Within s₀ (s.reply k f c dup d r) := by
  unfold State.reply
  split
  · exact h
  · exact h.arrive _ _ _ _ _ nofun

/-- What the decoder needs of a command's payload check and dispatch. -/
abbrev Body (s₀ : State) (body : State → State × ResultCode × Word16) : Prop :=
  ∀ {t : State}, Within s₀ t → t.station = .active → Within s₀ (body t).1 ∧ (body t).1.station = .active

theorem decode (h : Within s₀ s) (kind : CommandKind) (f : Frame) {body : State → State × ResultCode × Word16}
    {conclude : ResultCode → Word16 → State → State} (hb : Body s₀ body)
    (hc : ∀ {c d t}, Within s₀ t → t.station = .active → Within s₀ (conclude c d t)) :
    Within s₀ (s.decode kind f body conclude) := by
  obtain ⟨-, e⟩ | ⟨-, -, e⟩ | ⟨-, -, r, -, e⟩ | ⟨-, ha, -, e⟩ := State.decode_cases kind f body conclude s <;> rw [e]
  · exact h
  · exact h.count _
  · exact (h.count _).reply ..
  · obtain ⟨hw, hs⟩ := hb h ha
    exact hc (hw.writeRecord ..) ((State.writeRecord_station ..).trans hs)

theorem answer (h : Within s₀ s) (kind : CommandKind) (f : Frame) (c : ResultCode) (d : Word16) :
    Within s₀ (State.answer kind f c d s) := h.reply ..

theorem command (h : Within s₀ s) (kind : CommandKind) {f : Frame} {body : State → State × ResultCode × Word16}
    (hf : 1 ≤ f.sender ∧ f.sender ≤ 30) (hb : Body s₀ body) :
    Within s₀ (s.command kind f body (State.answer kind f)) :=
  h.handOver hf fun ht => ht.decode kind f hb fun hu _ => hu.answer ..

theorem query (h : Within s₀ s) (topic per : Nat) (build : State → List (List Byte)) {f : Frame}
    (hf : 1 ≤ f.sender ∧ f.sender ≤ 30) : Within s₀ (s.query topic per build f) := by
  refine h.handOver hf fun {t} ht => ?_
  dsimp only
  repeat' split
  case isFalse.isTrue => exact ht.count _
  case isFalse.isFalse.isFalse => exact ht.arrive _ _ _ _ _ nofun
  all_goals exact ht

/-! ### The bodies of the commands -/

theorem refusePayload (h : Within s₀ s) : Within s₀ s.refusePayload.1 := h.count _

theorem armBody (f : Frame) : Body s₀ (armBody f) := by
  intro t h ha
  unfold Machine.armBody
  dsimp only
  split
  · exact ⟨by split; exacts [h.refusePayload, h.refusePayload.count _], by split <;> exact ha⟩
  · rename_i r _
    have hw := h.arm f.sender r (.inl ha)
    obtain ⟨_, _, _, _, _, e⟩ := t.arm_touches f.sender r
    have hs : (t.arm f.sender r).1.station = .active := by rw [e]; exact ha
    exact ⟨by split; exacts [hw, hw.count _], by split <;> exact hs⟩

theorem removal (gone : Entry → Bool) {t : State} (h : Within s₀ t) (ha : t.station = .active) :
    Within s₀ (t.removeEntries gone .cancelled) ∧ (t.removeEntries gone .cancelled).station = .active := by
  obtain ⟨_, _, _, e⟩ := t.removeEntries_touches gone .cancelled
  exact ⟨h.removeEntries _ _ (.inl ha), by rw [e]; exact ha⟩

theorem cancelByTagBody (f : Frame) : Body s₀ (cancelByTagBody f) := by
  intro t h ha
  unfold Machine.cancelByTagBody
  split
  · exact ⟨h.refusePayload, ha⟩
  · exact removal _ h ha

theorem cancelByChannelBody (f : Frame) : Body s₀ (cancelByChannelBody f) := by
  intro t h ha
  unfold Machine.cancelByChannelBody
  split
  · exact ⟨h.refusePayload, ha⟩
  · split
    · exact removal _ h ha
    · exact ⟨h, ha⟩

theorem flushBody (f : Frame) : Body s₀ (flushBody f) := by
  intro t h ha
  unfold Machine.flushBody
  split
  · exact ⟨h.refusePayload, ha⟩
  · exact removal _ h ha

theorem setgenBody (f : Frame) : Body s₀ (setgenBody f) := by
  intro t h ha
  obtain ⟨ch, e⟩ := t.setgen_touches (parseSetgen f.payload)
  rw [Machine.setgenBody, e]
  exact ⟨h.outputs ch _, ha⟩

theorem slots (h : Within s₀ s) (slots : Vector (Option Reaction) 24) : Within s₀ { s with slots := slots } :=
  h.inert _ _ _ slots _ _ _ _ _

theorem installBody (f : Frame) : Body s₀ (installBody f) := by
  intro t h ha
  unfold Machine.installBody
  split
  · exact ⟨h.refusePayload, ha⟩
  · rename_i r _
    obtain ⟨sl, e⟩ := t.install_touches f.sender r
    simp only [e]
    exact ⟨h.slots sl, ha⟩

theorem removeBody (f : Frame) : Body s₀ (removeBody f) := by
  intro t h ha
  unfold Machine.removeBody
  split
  · exact ⟨h.refusePayload, ha⟩
  · rename_i n _
    obtain ⟨sl, e⟩ := t.removeReaction_touches n
    simp only [e]
    exact ⟨h.slots sl, ha⟩

theorem releaseHoldBody (f : Frame) : Body s₀ (releaseHoldBody f) := by
  intro t h ha
  unfold Machine.releaseHoldBody
  split
  · exact ⟨h.refusePayload, ha⟩
  · exact ⟨h.outputs _ _, ha⟩

theorem clearCounters (h : Within s₀ s) : Within s₀ s.clearCounters := by
  have cleared := h.inputs (Vector.ofFn fun i => { s.inputs[i] with suppressed := 0 }) s.inputPins
    fun _ hl i => by simpa using hl i
  exact cleared.inert _ _ _ _ _ _ _ _ _

theorem clearCountersBody (f : Frame) : Body s₀ (clearCountersBody f) := by
  intro t h ha
  unfold Machine.clearCountersBody
  split
  · exact ⟨h.clearCounters, ha⟩
  · exact ⟨h.refusePayload, ha⟩

theorem restartBody (f : Frame) : Body s₀ (restartBody f) := by
  intro t h ha
  unfold Machine.restartBody
  split
  · exact ⟨h.restartPending _ ha, ha⟩
  · exact ⟨h.refusePayload, ha⟩

theorem restartConclude (h : Within s₀ s) (ha : s.station = .active) (was : Bool) (f : Frame) (c : ResultCode)
    (d : Word16) : Within s₀ (restartConclude was f c d s) := by
  have restarts : ∀ {t : State}, Within s₀ t → t.station = .active → Within s₀ t.takeRestart := fun ht hs =>
    ht.takeRestart (.inl (by simp [hs, StationState.receives]))
  obtain e | ⟨-, -, e⟩ | ⟨-, -, -, e⟩ := restartConclude_cases was f c d s <;> rw [e]
  · exact h.reply ..
  · exact restarts h ha
  · split
    · exact h.reply ..
    · refine restarts (h.reply ..) ?_
      obtain ⟨_, _, _, e'⟩ := s.reply_touches .control f c false d true
      rw [e']
      exact ha

theorem takeMarkFrame (h : Within s₀ s) (f : Frame) : Within s₀ (s.takeMarkFrame f) := by
  unfold State.takeMarkFrame
  split <;> rename_i hs
  · split
    · exact h.takeMark _ hs.2.symm
    · exact h.count _
  · exact h

theorem refuseTopic (h : Within s₀ s) (f : Frame) : Within s₀ (s.refuseTopic f) := by
  unfold State.refuseTopic
  repeat' split
  · exact h
  · exact h.count _
  · exact (h.count _).reply ..

/-! ### The rows of R136 -/

/-- A clean frame handed on by its row, with no step overtaken, is a chain of elementary updates. -/
theorem exec_frame (h : Within s₀ s) {i : Instr} {f : Frame} {t : State} (hi : i.frame? = some f)
    (hd : ∀ k g o, i ≠ .duplicateNumberFrame k g (some o)) (hx : exec i s = .next t) : Within s₀ t := by
  have id' : ∀ {u : State}, Within s₀ u → Within s₀ u := id
  cases i <;> simp only [Instr.frame?, Option.some.injEq, reduceCtorEq] at hi <;> obtain rfl := hi.symm
  case duplicateNumberFrame k o =>
    cases o with
    | some o => exact absurd rfl (hd _ _ o)
    | none =>
      change execDuplicateNumberFrame k f none s = .next t at hx
      unfold execDuplicateNumberFrame at hx
      dsimp only at hx
      split at hx
      · cases hx
      · split at hx <;> cases hx
        · exact h
        · exact h.duplicateFound
  all_goals
    obtain ⟨hw, rfl⟩ := whenFormed_eq_next.mp hx
    simp only [Instr.wellFormed, Bool.and_eq_true] at hw
  case helloReceived | stampReceived => exact h.handOver (sender_of_wellFormed hw) id'
  case markReceived => exact followPairs (h.handOver (sender_of_wellFormed hw) (takeMarkFrame · f))
  case foreignAnswer => exact h.handOver (sender_of_wellFormed hw.2) fun ht => ht.count _
  case commandForAnotherStation =>
    split
    · exact h
    · exact h.handOver (sender_of_wellFormed hw.2) id'
  case arm => exact (h.command _ (sender_of_wellFormed hw) (armBody f)).followPairs
  case cancelByTag => exact h.command _ (sender_of_wellFormed hw.1) (cancelByTagBody f)
  case cancelByChannel => exact h.command _ (sender_of_wellFormed hw.1) (cancelByChannelBody f)
  case setgen => exact h.command _ (sender_of_wellFormed hw) (setgenBody f)
  case reactInstall => exact h.command _ (sender_of_wellFormed hw.1) (installBody f)
  case reactRemove => exact h.command _ (sender_of_wellFormed hw.1) (removeBody f)
  case releaseHold => exact h.command _ (sender_of_wellFormed hw.1) (releaseHoldBody f)
  case clearCounters => exact h.command _ (sender_of_wellFormed hw.1) (clearCountersBody f)
  case flushSchedule => exact h.command _ (sender_of_wellFormed hw.1) (flushBody f)
  case restart =>
    exact h.handOver (sender_of_wellFormed hw.1) fun ht =>
      ht.decode _ f (restartBody f) fun hu ha => hu.restartConclude ha ..
  case queryUnknownTopic => exact h.handOver (sender_of_wellFormed hw.1) (refuseTopic · f)
  all_goals exact h.query _ _ _ (sender_of_wellFormed hw.1)

theorem deliver (h : Within s₀ s) {kind : FrameKind} {f : Frame} {t : State} (hx : s.deliver kind f = .next t) :
    Within s₀ t := by
  obtain ⟨hf, hd⟩ := rowOf_frame? s.settings.station kind f
  exact h.exec_frame hf hd (State.deliver_eq_exec_rowOf .. ▸ hx)

end Within
end Sys2Proof.Machine
end

section
/-! SUPPORT. The commands that hand on no frame, and what any command does (`exec_within`). -/

namespace Sys2Proof.Machine

namespace Within

variable {s₀ s : State}

/-- An event that finds the line BUSY leaves it at rest. -/
theorem rests (h : Within s₀ s) (hb : s₀.line.condition = .busy) : s.line.condition.Rests := by
  induction h with
  | start => simp [LineCondition.Rests, hb]
  | line h v hc _ _ ih => exact hc.elim (fun e => e ▸ ih) (·.2)
  | transmit hr => simp [State.readyToSend, hb] at hr
  | arrive h kind d q p r _ ih =>
    obtain ⟨_, _, _, e⟩ := State.arrive_touches kind d q p r _
    rwa [e]
  | silence h _ ih =>
    obtain ⟨_, _, _, e⟩ := State.silence_touches _
    rw [e]
    exact State.cutLine_rests ih.1
  | takeRestart h _ ih =>
    obtain ⟨_, _, _, e⟩ := State.takeRestart_touches _
    rw [e]
    exact State.cutLine_rests ih.1
  | acceptImage | startBreak | drawBackoff | giveUp | finishFrame => exact ⟨nofun, nofun⟩
  | _ => assumption

theorem beginQuiet (h : Within s₀ s) (hc : s.line.condition.Rests) : Within s₀ s.beginQuiet := by
  refine h.line _ (.inr ⟨hc, nofun, nofun⟩) ?_ rfl
  dsimp only
  split <;> rename_i ha
  · exact .inr (.inr ha)
  · exact .inl rfl

theorem lineGoesQuiet {cells : List Bool} {more first : Bool} {t : State}
    (hx : execLineGoesQuiet cells more first s = .next t) : Within s t := by
  have discarded : Within s s.discardStretch := start.dropLatched
  unfold execLineGoesQuiet at hx
  split at hx
  · cases hx
    exact start
  · rename_i hb
    have hb : s.line.condition = .busy := not_not.mp hb
    have hr : s.line.condition.Rests := by simp [LineCondition.Rests, hb]
    split at hx
    · cases hx
      exact discarded.beginQuiet hr
    · obtain ⟨n, e, -⟩ | ⟨kind, f, u, v, -, -, hu, ⟨-, hd, e⟩ | ⟨-, hd, e⟩⟩ := State.endStretch_cases cells more first s
      all_goals
        rw [e] at hx
        cases hx
      · exact (discarded.count n).beginQuiet hr
      · have delivered : Within s v := deliver (hu ▸ start.count _) hd
        exact delivered.beginQuiet (delivered.rests hb)
      · exact deliver (hu ▸ (start.count _).beginQuiet hr) hd

theorem collision {t : State} (hx : execCollision s = .next t) : Within s t := by
  cases hx
  split <;> rename_i hc
  · split <;> rename_i hf
    · exact start.startBreak hc hf
    · rename_i f
      split <;> rename_i ha
      · have gone : Within s s.giveUp := start.giveUp hc
        change Within s (if f.restartReply then s.giveUp.takeRestart else s.giveUp)
        split
        · exact gone.takeRestart (.inr nofun)
        · exact gone
      · exact start.drawBackoff f hc hf (by omega)
  · exact start

theorem captureEdge {i : Fin 4} {e : Edge} {first : Bool} {t : State} (hx : execCaptureEdge i e first s = .next t) :
    Within s t := by
  cases hx
  repeat' split
  case isTrue h => exact start.drivePin i _ (by simpa using h)
  case isFalse.isTrue => exact start
  case isFalse.isFalse.isTrue => exact ((start.setLevel i _).edgeOfInterest i e first).followPairs
  case isFalse.isFalse.isFalse => exact start.setLevel i _

theorem inputEdgeNotOfInterest {i : Fin 4} {e : Edge} {t : State}
    (hx : execInputEdgeNotOfInterest i e s = .next t) : Within s t := by
  cases hx
  repeat' split
  case isTrue h => exact start.drivePin i _ (by simpa using h)
  case isFalse.isTrue => exact start.setLevel i _
  case isFalse.isFalse => exact start

theorem configReadEnd {t : State} (hx : execConfigReadEnd s = .next t) : Within s t := by
  cases hx
  split <;> rename_i hr
  · exact start
  · have hr : s.readComplete = true := by simpa using hr
    split
    · exact start.acceptImage _ hr
    · exact start.refuseImage hr

theorem resetNReleased {memory : List Byte} {t : State} (hx : execResetNReleased memory s = .next t) :
    Within s t := by
  obtain ⟨hw, rfl⟩ := whenFormed_eq_next.mp hx
  split <;> rename_i hh
  · exact start.release memory hh (by simpa [Instr.wellFormed] using hw)
  · exact start

theorem activityBegins {t : State} (hx : execActivityBegins s = .next t) : Within s t := by
  cases hx
  split <;> rename_i hq
  · exact start.line _ (.inr (by simp [LineCondition.Rests, hq])) (.inl rfl) rfl
  · exact start

theorem breakRelease {t : State} (hx : execBreakRelease s = .next t) : Within s t := by
  cases hx
  split <;> rename_i hb
  · have hc : s.line.condition = .breaking := by simp_all [State.breakEnds]
    exact start.line _ (.inr (by simp [LineCondition.Rests, hc])) (.inr (.inl rfl)) rfl
  · exact start

theorem ownFrameCleanEnd {t : State} (hx : execOwnFrameCleanEnd s = .next t) : Within s t := by
  cases hx
  split <;> rename_i he
  · have finished : Within s s.finishFrame := start.finishFrame (by simp_all [State.ownFrameEnds])
    split
    · exact finished.takeRestart (.inr nofun)
    · exact finished
  · exact start

/-- A line interface that keeps its condition, its target and its backoff. -/
theorem sameLine (h : Within s₀ s) (v : LineInterface) (hc : v.condition = s.line.condition)
    (ht : v.target = s.line.target) (hb : v.backoff = s.line.backoff) : Within s₀ { s with line := v } :=
  h.line v (.inl hc) (.inr (.inl ht)) hb

/-- A command that hands on no frame, and is neither a reset nor a settle point, is a chain of elementary
updates. -/
theorem exec_event {i : Instr} {t : State} (hi : i.frame? = none) (hr : i ≠ .powerOn ∧ i ≠ .resetNAsserted)
    (ho : ∀ order, i ≠ .settlePoint order) (hx : exec i s = .next t) : Within s t := by
  have outputs' : ∀ {c : Prop} [Decidable c] (channels : Vector Channel 8) (pairs : Vector Pair 4),
      Within s (if c then { s with channels := channels, pairs := pairs } else s) := by
    intros
    split
    · exact start.outputs _ _
    · exact start
  cases i <;> simp only [Instr.frame?, reduceCtorEq] at hi
  case powerOn => exact absurd rfl hr.1
  case resetNAsserted => exact absurd rfl hr.2
  case settlePoint order => exact absurd rfl (ho order)
  case resetNReleased => exact resetNReleased hx
  case configReadEnd => exact configReadEnd hx
  case captureEdge => exact captureEdge hx
  case inputEdgeNotOfInterest => exact inputEdgeNotOfInterest hx
  case lineGoesQuiet => exact lineGoesQuiet hx
  case collision => exact collision hx
  case activityBegins => exact activityBegins hx
  case breakRelease => exact breakRelease hx
  case ownFrameCleanEnd => exact ownFrameCleanEnd hx
  all_goals cases hx
  case entryDue => exact start.fireReached.followPairs
  case pulseEnd | burstHalfEnd | deadBandExpiry | genHighEnd | genFrameEnd => exact outputs' _ _
  case holdOffExpiry i =>
    split
    · exact start.setInput i _ rfl
    · exact start
  case transmissionBegins =>
    split <;> rename_i hr
    · exact transmit hr
    · exact start
  all_goals
    split
    · exact start.sameLine _ rfl rfl rfl
    · exact start

end Within

/-- What a step that may hold a settle point leads to: a chain of elementary updates, from the state it finds or, at a
settle point, from what the line time unit's own work leaves (R8). -/
abbrev State.Becomes (settles : Prop) (s t : State) : Prop :=
  Within s t ∨ settles ∧ s.settleExpires = true ∧ Within s.settleUnit t

theorem execSettlePoint_becomes {order : List SettleAct} {s t : State} (hx : execSettlePoint order s = .next t) :
    s.Becomes True t := by
  obtain ⟨-, rfl⟩ := whenFormed_eq_next.mp hx
  split <;> rename_i he
  · exact .inr ⟨trivial, he, .settle order s⟩
  · exact .inl .start

/-- An overtaken step is taken as the row it is. -/
theorem State.takeOvertaken_becomes {o : OvertakenStep} {s t : State} (hx : s.takeOvertaken o = .next t) :
    s.Becomes (∃ order, o = .settlePoint order) t := by
  cases o with
  | entryDue => cases hx; exact .inl Within.start.fireReached.followPairs
  | settlePoint order => exact (execSettlePoint_becomes hx).imp_right fun h => ⟨⟨order, rfl⟩, h.2⟩
  | captureEdge => exact .inl (.captureEdge hx)
  | delivered kind f =>
    unfold State.takeOvertaken at hx
    dsimp only at hx
    split at hx <;> rename_i hf
    · cases hx
      exact .inl Within.start.duplicateFound
    · refine .inl (Within.start.deliver (kind := kind) (f := f) ?_)
      rwa [State.deliver, if_neg hf]

/-- What any command does: a reset; a chain of elementary updates, after the line time unit's own work at a settle
point; or, for a duplicate that overtakes a step, that step in a queue told from which arrival on it stands emptied,
and then the duplicate (R126, R158, R176). -/
theorem exec_within {i : Instr} {s t : State} (hx : exec i s = .next t) :
    ((i = .powerOn ∨ i = .resetNAsserted) ∧ t = s.initial) ∨
    s.Becomes (∃ order, i = .settlePoint order) t ∨
    ∃ (shut : Option Nat) (u : State),
      State.Becomes (∃ k f order n, i = .duplicateNumberFrame k f (some ⟨.settlePoint order, n⟩))
        { s with queueShutFrom := shut } u ∧
      t = State.duplicateFound { u with queueShutFrom := none } := by
  by_cases hr : i = .powerOn ∨ i = .resetNAsserted
  · refine .inl ⟨hr, ?_⟩
    obtain rfl | rfl := hr <;> cases hx <;> rfl
  · refine .inr ?_
    by_cases ho : ∃ order, i = .settlePoint order
    · obtain ⟨order, rfl⟩ := ho
      exact .inl ((execSettlePoint_becomes hx).imp_right fun h => ⟨⟨order, rfl⟩, h.2⟩)
    · by_cases hd : ∃ k f o, i = .duplicateNumberFrame k f (some o)
      · obtain ⟨k, f, o, rfl⟩ := hd
        have hw : (Instr.duplicateNumberFrame k f (some o)).wellFormed = true := by
          by_contra h
          rw [Bool.not_eq_true] at h
          simp [exec, execDuplicateNumberFrame, h] at hx
        obtain ⟨-, e⟩ | ⟨-, h', -⟩ | ⟨-, o', u, ho', hu, e⟩ := execDuplicateNumberFrame_cases s hw
        · cases e.symm.trans hx
          exact .inl (.inl .start)
        · cases h'
        · cases ho'
          cases e.symm.trans hx
          refine .inr ⟨_, u, (State.takeOvertaken_becomes hu).imp_right fun h => ⟨?_, h.2⟩, rfl⟩
          obtain ⟨⟨order, ho'⟩, -⟩ := h
          exact ⟨k, f, order, o.placed, by rw [← ho']⟩
      · refine .inl (.inl ?_)
        cases hf : i.frame? with
        | none => exact .exec_event hf (not_or.mp hr) (fun order h => ho ⟨order, h⟩) hx
        | some f => exact Within.start.exec_frame hf (fun k g o h => hd ⟨k, g, o, h⟩) hx

end Sys2Proof.Machine
end

section
/-! SUPPORT. Each law of a station is kept by every elementary update, by the line time unit's work, by a reset and by a
tick, and so by every step. -/

namespace Sys2Proof.Machine

/-! ### From updates to steps -/

/-- A property that every part of a step keeps is kept by every command. -/
theorem exec_keeps {P : State → Prop} (initial : ∀ s, P s → P s.initial)
    (shut : ∀ s a, P s → P { s with queueShutFrom := a })
    (within : ∀ {s t}, Within s t → P s → P t) (unit : ∀ s, s.settleExpires = true → P s → P s.settleUnit)
    {i : Instr} {s t : State} (hx : exec i s = .next t) (hs : P s) : P t := by
  have becomes : ∀ {c : Prop} {s t : State}, s.Becomes c t → P s → P t := fun h hs =>
    h.elim (within · hs) fun ⟨_, he, hw⟩ => within hw (unit _ he hs)
  obtain ⟨-, rfl⟩ | h | ⟨a, u, h, rfl⟩ := exec_within hx
  · exact initial s hs
  · exact becomes h hs
  · exact within Within.start.duplicateFound (shut u none (becomes h (shut s a hs)))

/-- A property that every part of a step keeps is kept by every step. -/
theorem step_keeps {P : State → Prop} (pending : ∀ s l, P s → P { s with pending := l })
    (initial : ∀ s, P s → P s.initial) (shut : ∀ s a, P s → P { s with queueShutFrom := a })
    (within : ∀ {s t}, Within s t → P s → P t) (unit : ∀ s, s.settleExpires = true → P s → P s.settleUnit)
    (tick : ∀ s, s.ownEvent = none → P s → P s.tick)
    {s t : State} (hx : step s = .next t) (hs : P s) : P t := by
  unfold step at hx
  split at hx
  · exact exec_keeps initial shut within unit hx (pending _ _ hs)
  · split at hx
    · exact exec_keeps initial shut within unit hx hs
    · cases hx
      exact tick s ‹_› hs

/-- A tick moves local time, the notes of the moment and the loader's bits, and nothing else. -/
theorem State.tick_touches (s : State) :
    ∃ time pairs inputs bits,
      s.tick = { s with localTime := time, pairs := pairs, inputs := inputs, imageBits := bits } ∧
      (∀ i : Fin 4, inputs[i].level = s.inputs[i].level) ∧ (s.resetHeld = true → time = s.localTime) := by
  unfold State.tick
  split <;> rename_i hh
  · exact ⟨_, _, _, _, rfl, fun _ => rfl, fun _ => rfl⟩
  · unfold State.clockIn
    split <;> exact ⟨_, _, _, _, rfl, fun i => by simp, fun h => absurd h hh⟩

/-! ### The law of the states before configuration -/

theorem State.station_of_readComplete {s : State} (h : s.readComplete = true) : s.station = .configuring := by
  simp_all [State.readComplete]

/-- The read is complete in CONFIGURING alone, with RESET_N high (R181). -/
theorem State.readComplete_station {s : State} (h : s.readComplete = true) (hl : s.ConfigurationLaw) :
    s.station = .configuring ∧ s.resetHeld = false := by
  simp only [State.readComplete, Bool.and_eq_true, beq_iff_eq] at h
  refine ⟨h.1.1, by_contra fun hh => ?_⟩
  have ht := (hl.2.2.1 (by simpa using hh)).2.symm.trans h.2
  exact absurd ht (by decide)

namespace Within

variable {s₀ s : State}

theorem keeps_configuration (h : Within s₀ s) (hl : s₀.ConfigurationLaw) : s.ConfigurationLaw := by
  induction h with
  | start => exact hl
  | line h v hc _ _ ih =>
    obtain ⟨h1, h2, h3⟩ := ih
    refine ⟨h1, ?_, h3⟩
    obtain e | ⟨⟨ha, -⟩, hb, -⟩ := hc
    · simpa [e] using h2
    · exact h2.trans (by simp [ha, hb])
  | arrive h kind d q p r _ ih =>
    obtain ⟨_, _, _, e⟩ := State.arrive_touches kind d q p r _
    rwa [e]
  | activate h hs ih => simpa [State.ConfigurationLaw, hs] using ih
  | silence h hr ih =>
    rename_i u
    obtain ⟨_, _, _, e⟩ := u.silence_touches
    obtain ⟨h1, h2, h3, -⟩ := ih
    rw [e]
    refine ⟨by simpa [hr] using h1, ?_, fun hh => ?_, nofun⟩
    · simp [u.cutLine_line.2.2.2, ← h2, hr]
    · simp [(h3 hh).1] at hr
  | takeRestart h hr ih =>
    rename_i u
    obtain ⟨_, _, _, e⟩ := u.takeRestart_touches
    obtain ⟨h1, h2, h3, -⟩ := ih
    have hr : u.station.receives = true := hr.elim id fun hc => by simpa [← h2] using hc
    rw [e]
    refine ⟨by simpa [hr] using h1, ?_, fun hh => ?_, nofun⟩
    · simp [u.cutLine_line.2.2.2, ← h2, hr]
    · simp [(h3 hh).1] at hr
  | release h m hh hm ih => exact ⟨ih.1, ih.2.1, nofun, ih.2.2.2⟩
  | acceptImage h image hr ih =>
    obtain ⟨_, _, e⟩ := State.acceptImage_touches image _
    have hh := (State.readComplete_station hr ih).2
    rw [e]
    exact ⟨by simp, by simp, fun h => by simp_all, nofun⟩
  | refuseImage h hr ih =>
    obtain ⟨hc, hh⟩ := State.readComplete_station hr ih
    obtain ⟨h1, h2, -, h4⟩ := ih
    rw [hc] at h1 h2 h4
    exact ⟨h1, h2, fun h => absurd (hh.symm.trans h) nofun, h4⟩
  | transmit hr =>
    have hq : s₀.line.condition = .quiet := by simp_all [State.readyToSend]
    exact ⟨hl.1, hl.2.1.trans (by simp [hq]), hl.2.2⟩
  | startBreak h hc | drawBackoff h _ hc | giveUp h hc | finishFrame h hc =>
    rename_i ih
    obtain ⟨h1, h2, h3⟩ := ih
    exact ⟨h1, h2.trans (by simp [hc, State.startBreak, State.drawBackoff, State.giveUp, State.finishFrame]), h3⟩
  | _ => assumption

/-! ### The law of a quiet station -/

theorem keeps_quietStation (h : Within s₀ s) (hl : s₀.QuietStationLaw) : s.QuietStationLaw := by
  have hn : ¬s₀.Astray := fun ha => ha.2 (hl.2 (not_or.mp ha.1).1 (not_or.mp ha.1).2)
  induction h with
  | start => exact hl
  | line h v hc ht hb ih =>
    refine ⟨fun hs => ?_, ih.2⟩
    obtain ⟨h1, h2, h3, h4, h5⟩ := ih.1 hs
    refine ⟨h1, ?_, ?_, hb.trans h4, h5⟩
    · exact hc.elim (fun e => e ▸ h2) fun hr => hr.2.2
    · exact ht.elim id fun ht => ht.elim (·.trans h3) fun ha => absurd ha hs
  | schedule h l hs ih =>
    refine ⟨ih.1, fun ha hb => ?_⟩
    exact absurd (hs.resolve_right hn) (not_or.mpr ⟨ha, hb⟩)
  | arrive h kind d q p r hk ih =>
    rename_i u
    refine ⟨fun hs => ?_, ?_⟩
    · rw [State.arrive_station] at hs
      obtain ⟨ha, -⟩ | ⟨ha, -⟩ | ⟨-, e⟩ := State.arrive_cases kind d q p r u
      · exact absurd ha hs
      · exact absurd ha hs
      · rw [e]
        exact ih.1 hs
    · obtain ⟨_, _, _, e⟩ := State.arrive_touches kind d q p r u
      rw [e]
      exact ih.2
  | activate h hs ih => exact ⟨fun h => absurd rfl h, fun h => absurd rfl h⟩
  | restartPending h b ha ih => exact ⟨fun h => absurd ha h, ih.2⟩
  | silence h hr ih =>
    rename_i u
    obtain ⟨_, _, _, e⟩ := u.silence_touches
    obtain ⟨ht, hb, hs, -⟩ := u.cutLine_line
    rw [e]
    exact ⟨fun _ => ⟨rfl, hs, ht, hb, rfl⟩, fun _ _ => rfl⟩
  | takeRestart h hr ih =>
    rename_i u
    obtain ⟨_, _, _, e⟩ := u.takeRestart_touches
    obtain ⟨ht, hb, hs, -⟩ := u.cutLine_line
    rw [e]
    exact ⟨fun _ => ⟨rfl, hs, ht, hb, rfl⟩, fun _ _ => rfl⟩
  | acceptImage h image hr ih =>
    obtain ⟨_, _, e⟩ := State.acceptImage_touches image _
    have hc := State.station_of_readComplete hr
    obtain ⟨h1, -, h3, h4, -⟩ := ih.1 (by simp [hc])
    rw [e]
    exact ⟨fun _ => ⟨h1, nofun, h3, h4, rfl⟩, fun _ h => absurd rfl h⟩
  | refuseImage h hr ih =>
    have hc := State.station_of_readComplete hr
    exact ⟨fun _ => ih.1 (by simp [hc]), fun _ _ => ih.2 (by simp [hc]) (by simp [hc])⟩
  | transmit hr =>
    have ha : s₀.station = .active := by simp_all [State.readyToSend]
    exact ⟨fun h => absurd ha h, hl.2⟩
  | startBreak h hc | drawBackoff h _ hc | giveUp h hc | finishFrame h hc =>
    rename_i ih
    have ha := not_not.mp fun ha => (ih.1 ha).2.1 hc
    exact ⟨fun h => absurd ha h, ih.2⟩
  | _ => assumption

end Within

/-! ### The order of the transmit queue -/

/-- What the queue's law says of the frames themselves (R148, R149, R152): `sent` of them on the line, and ages below
`next`. -/
abbrev InQueueOrder (sent next : Nat) (l : List TxFrame) : Prop :=
  l.length ≤ queueLimit ∧
  (l.Pairwise fun a b => a.kind.cls < b.kind.cls ∨ (a.kind.cls = b.kind.cls ∧ a.age < b.age)) ∧
  l.countP (·.kind == .stamp) ≤ 1 ∧ l.countP (·.onLine) = sent ∧ ∀ f ∈ l, f.age < next ∧ f.attempts < attemptLimit

/-- The queue's order, with a frame on the line exactly while the line interface is SENDING. -/
abbrev State.QueueOrder (s : State) : Prop :=
  InQueueOrder (if s.line.condition = .sending then 1 else 0) s.nextAge s.queue

theorem State.queueLaw_iff (s : State) : s.QueueLaw ↔ s.queueShutFrom = none ∧ s.QueueOrder := Iff.rfl

/-- The youngest frame goes behind every frame of its class and lower, ahead of every higher (R149). -/
theorem insertFrame_sorted (f : TxFrame) (l : List TxFrame) (hf : ∀ g ∈ l, g.age < f.age)
    (h : l.Pairwise fun a b => a.kind.cls < b.kind.cls ∨ (a.kind.cls = b.kind.cls ∧ a.age < b.age)) :
    (insertFrame f l).Pairwise fun a b => a.kind.cls < b.kind.cls ∨ (a.kind.cls = b.kind.cls ∧ a.age < b.age) := by
  induction l with
  | nil => exact List.pairwise_singleton ..
  | cons x rest ih =>
    obtain ⟨hx, hr⟩ := List.pairwise_cons.mp h
    obtain ⟨hfx, hfr⟩ := List.forall_mem_cons.mp hf
    unfold insertFrame
    split <;> rename_i hle
    · refine List.pairwise_cons.mpr ⟨fun y hy => ?_, ih hfr hr⟩
      obtain rfl | hy := (mem_insertFrame ..).mp hy
      · omega
      · exact hx y hy
    · refine List.pairwise_cons.mpr ⟨fun y hy => ?_, h⟩
      obtain rfl | hy := List.mem_cons.mp hy
      · omega
      · have := hx y hy; omega

namespace InQueueOrder

variable {sent next : Nat} {l : List TxFrame}

theorem nil (next : Nat) : InQueueOrder 0 next [] := by simp [InQueueOrder]

/-- A frame joins a queue with room, as the youngest and not on the line (R149, R150). -/
theorem insert (h : InQueueOrder sent next l) {f : TxFrame} (hl : l.length < queueLimit) (hg : f.age = next)
    (ht : f.attempts = 0) (ho : f.onLine = false) (hs : f.kind = .stamp → ∀ g ∈ l, g.kind ≠ .stamp) :
    InQueueOrder sent (next + 1) (insertFrame f l) := by
  obtain ⟨-, h2, h3, h4, h5⟩ := h
  have hp := insertFrame_perm f l
  refine ⟨by simpa using hl, insertFrame_sorted f l (fun g hm => hg ▸ (h5 g hm).1) h2, ?_, ?_, fun g hm => ?_⟩
  · rw [hp.countP_eq, List.countP_cons]
    by_cases hk : f.kind = .stamp
    · have : l.countP (·.kind == .stamp) = 0 := List.countP_eq_zero.mpr (by simpa using hs hk)
      simp [this, hk]
    · simpa [hk] using h3
  · rw [hp.countP_eq, List.countP_cons]
    simpa [ho] using h4
  · obtain rfl | hm := (mem_insertFrame ..).mp hm
    · exact ⟨by omega, by simp [ht, attemptLimit]⟩
    · exact ⟨Nat.lt_succ_of_lt (h5 g hm).1, (h5 g hm).2⟩

/-- Frames leave: those that stay keep their order. -/
theorem sublist (h : InQueueOrder sent next l) {l' : List TxFrame} (hs : l'.Sublist l) :
    InQueueOrder (l'.countP (·.onLine)) next l' := by
  obtain ⟨h1, h2, h3, -, h5⟩ := h
  exact ⟨hs.length_le.trans h1, h2.sublist hs, hs.countP_le.trans h3, rfl, fun f hf => h5 f (hs.subset hf)⟩

/-- A frame that is not on the line is displaced (R151). -/
theorem erase (h : InQueueOrder sent next l) {v : TxFrame} (hv : v.onLine = false) :
    InQueueOrder sent next (l.erase v) := by
  have he := h.sublist (List.erase_sublist (a := v))
  rwa [List.countP_erase, if_neg (by simp [hv]), Nat.sub_zero, h.2.2.2.1] at he

/-- The frame on the line leaves, whatever else leaves with it. -/
theorem filter_offLine (h : InQueueOrder sent next l) {p : TxFrame → Bool} (hp : ∀ f, p f = true → f.onLine = false) :
    InQueueOrder 0 next (l.filter p) := by
  have hf := h.sublist (List.filter_sublist (p := p))
  rwa [List.countP_eq_zero.mpr fun f hm => by simp [hp f (List.mem_filter.mp hm).2]] at hf

/-- The head goes on the line (R152). -/
theorem putHeadOnLine (h : InQueueOrder 0 next l) (hl : l ≠ []) : InQueueOrder 1 next (putHeadOnLine l) := by
  cases l with
  | nil => exact absurd rfl hl
  | cons f rest =>
    rw [putHeadOnLine_cons]
    simp only [InQueueOrder, List.countP_cons, List.pairwise_cons, List.forall_mem_cons, List.length_cons] at h ⊢
    obtain ⟨h1, h2, h3, h4, h5⟩ := h
    exact ⟨h1, h2, h3, by simpa using (Nat.add_eq_zero_iff.mp h4).1, h5⟩

/-- The frame on the line is the only one. -/
theorem eq_of_find (h : InQueueOrder 1 next l) {f g : TxFrame} (hf : l.find? (·.onLine) = some f) (hg : g ∈ l)
    (ho : g.onLine = true) : g = f := by
  have hone : (l.filter (·.onLine)).length = 1 := List.countP_eq_length_filter.symm.trans h.2.2.2.1
  obtain ⟨x, hx⟩ := List.length_eq_one_iff.mp hone
  have hfx : f ∈ l.filter (·.onLine) := List.mem_filter.mpr ⟨List.mem_of_find?_eq_some hf, List.find?_some hf⟩
  have hgx : g ∈ l.filter (·.onLine) := List.mem_filter.mpr ⟨hg, ho⟩
  rw [hx, List.mem_singleton] at hfx hgx
  exact hgx.trans hfx.symm

/-- The frame on the line stays at its place after a collision, with one attempt more (R142). -/
theorem collide (h : InQueueOrder 1 next l) {f : TxFrame} (hf : l.find? (·.onLine) = some f)
    (ha : f.attempts + 1 < attemptLimit) : InQueueOrder 0 next (l.map TxFrame.collide) := by
  have kind : ∀ g : TxFrame, g.collide.kind = g.kind := fun g => by unfold TxFrame.collide; split <;> rfl
  have age : ∀ g : TxFrame, g.collide.age = g.age := fun g => by unfold TxFrame.collide; split <;> rfl
  have offLine : ∀ g : TxFrame, g.collide.onLine = false := fun g => by unfold TxFrame.collide; split <;> simp_all
  have attempts : ∀ g ∈ l, g.collide.attempts < attemptLimit := fun g hg => by
    unfold TxFrame.collide
    split
    · rename_i ho; rw [h.eq_of_find hf hg ho]; exact ha
    · exact (h.2.2.2.2 g hg).2
  obtain ⟨h1, h2, h3, -, h5⟩ := h
  refine ⟨by simpa using h1, ?_, ?_, List.countP_eq_zero.mpr (by simp [offLine]), ?_⟩
  · simpa [List.pairwise_map, kind, age] using h2
  · simpa [List.countP_map, Function.comp_def, kind] using h3
  · intro g hg
    obtain ⟨g', hg', rfl⟩ := List.mem_map.mp hg
    exact ⟨(age g').symm ▸ (h5 g' hg').1, attempts g' hg'⟩

end InQueueOrder

namespace Within

variable {s₀ s : State}

theorem keeps_queueOrder (h : Within s₀ s) (hc₀ : s₀.ConfigurationLaw) (hl : s₀.QueueOrder) : s.QueueOrder := by
  induction h with
  | start => exact hl
  | line h v hc _ _ ih =>
    obtain e | ⟨⟨-, ha⟩, -, hb⟩ := hc
    · simpa [State.QueueOrder, e] using ih
    · simpa [State.QueueOrder, ha, hb] using ih
  | arrive h kind d q p r hk ih =>
    rename_i u
    obtain ⟨-, -, hl, e⟩ | ⟨-, -, hl, v, hv, e⟩ | ⟨-, e⟩ := State.arrive_cases kind d q p r u <;> rw [e]
    · exact ih.insert hl rfl rfl rfl hk
    · obtain ⟨hm, ho, hcls⟩ := mem_of_victim hv
      refine (ih.erase ho).insert ?_ rfl rfl rfl fun hs g hg => hk hs g (List.mem_of_mem_erase hg)
      have := List.length_pos_of_mem hm
      rw [List.length_erase_of_mem hm]
      have := ih.1
      omega
    · exact ih
  | silence h hr ih =>
    rename_i u
    obtain ⟨_, _, _, e⟩ := u.silence_touches
    rw [e, State.QueueOrder, if_neg u.cutLine_line.2.2.1]
    exact .nil _
  | takeRestart h hr ih =>
    rename_i u
    obtain ⟨_, _, _, e⟩ := u.takeRestart_touches
    rw [e, State.QueueOrder, if_neg u.cutLine_line.2.2.1]
    exact .nil _
  | acceptImage h image hr ih =>
    rename_i u
    have hoff := (h.keeps_configuration hc₀).2.1.mp (by simp [State.station_of_readComplete hr])
    obtain ⟨_, _, e⟩ := u.acceptImage_touches image
    rw [e]
    simpa [State.QueueOrder, hoff] using ih
  | transmit hr =>
    have hq : s₀.line.condition = .quiet ∧ s₀.queue ≠ [] := by simp_all [State.readyToSend]
    rw [State.QueueOrder, hq.1] at hl
    exact hl.putHeadOnLine hq.2
  | startBreak h hc hf ih =>
    rw [State.QueueOrder, if_pos hc] at ih
    have hone := List.countP_pos_iff.mp (ih.2.2.2.1 ▸ Nat.one_pos)
    obtain ⟨g, hg, ho⟩ := hone
    exact absurd ho (List.find?_eq_none.mp hf g hg)
  | drawBackoff h f hc hf ha ih =>
    rw [State.QueueOrder, if_pos hc] at ih
    exact ih.collide hf ha
  | giveUp h hc ih => exact ih.filter_offLine (by simp)
  | finishFrame h hc ih => exact ih.filter_offLine (by simp +contextual)
  | _ => assumption

/-! ### The roster's law -/

theorem mem_stations_refreshPeer {n station : Nat} {sample : Time} {reported : SyncState} {l : List Peer} :
    n ∈ (refreshPeer station sample reported l).map (·.station) ↔ n = station ∨ n ∈ l.map (·.station) := by
  rw [stations_refreshPeer]
  split <;> rename_i h
  · refine (or_iff_right_of_imp ?_).symm
    rintro rfl
    simpa using h
  · simp [or_comm]

/-- A refreshed table holds the entries it held, and the sender's with nothing aged (R116). -/
theorem of_mem_refreshPeer {station : Nat} {sample : Time} {reported : SyncState} {l : List Peer} {p : Peer}
    (h : p ∈ refreshPeer station sample reported l) :
    p ∈ l ∨ p.station = station ∧ p.age = 0 ∧ p.silence = 0 := by
  unfold refreshPeer at h
  split at h
  · obtain ⟨q, hq, rfl⟩ := List.mem_map.mp h
    split <;> rename_i hs
    · exact .inr ⟨by simpa using hs, rfl, rfl⟩
    · exact .inl hq
  · obtain h | h := List.mem_append.mp h
    · exact .inl h
    · obtain rfl := List.mem_singleton.mp h
      exact .inr ⟨rfl, rfl, rfl⟩

/-- The stations an aged table loses are those of the entries that fall silent. -/
theorem agePeers_station {u : State} (hn : (u.peers.map (·.station)).Nodup) {p : Peer} (hp : p ∈ u.peers) :
    (u.peers.any fun q => q.station == p.station && u.fallsSilent q) = u.fallsSilent p := by
  rw [Bool.eq_iff_iff, List.any_eq_true]
  constructor
  · rintro ⟨q, hq, hs⟩
    simp only [Bool.and_eq_true, beq_iff_eq] at hs
    rw [← List.inj_on_of_nodup_map hn hq hp hs.1]
    exact hs.2
  · exact fun hs => ⟨p, hp, by simp [hs]⟩

theorem keeps_roster (h : Within s₀ s) (hq₀ : s₀.QuietStationLaw) (hl : s₀.RosterLaw) : s.RosterLaw := by
  induction h with
  | start => exact hl
  | arrive h kind d q p r _ ih =>
    obtain ⟨_, _, _, e⟩ := State.arrive_touches kind d q p r _
    rwa [e]
  | activate h hs ih =>
    obtain ⟨h1, h2, h3, h4, h5, -, -⟩ := ih
    refine ⟨h1, h2, nodup_moveToEnd _ h3, fun n hn => ?_, fun p hp => ?_, fun _ => ?_, nofun⟩
    · obtain rfl | hn := (mem_moveToEnd ..).mp hn
      · exact .inr ⟨rfl, rfl⟩
      · exact (h4 n hn).imp_right fun h => ⟨h.1, rfl⟩
    · exact (mem_moveToEnd ..).mpr (.inr (h5 p hp))
    · exact (mem_moveToEnd ..).mpr (.inl rfl)
  | receive h f hr hf ih =>
    obtain ⟨h1, h2, h3, h4, h5, h6, -⟩ := ih
    refine ⟨?_, fun p hp => ?_, nodup_moveToEnd _ h3, fun n hn => ?_, fun p hp => ?_, fun ha => ?_, fun hr' => ?_⟩
    · change ((refreshPeer ..).map _).Nodup
      rw [stations_refreshPeer]
      split <;> rename_i hs
      · exact h1
      · simpa [List.nodup_append, h1] using hs
    · obtain hp | ⟨hs, ha, hn⟩ := of_mem_refreshPeer hp
      · exact h2 p hp
      · exact ⟨hs ▸ hf.1, hs ▸ hf.2.1, hs ▸ hf.2.2, ha.trans hn.symm⟩
    · obtain rfl | hn := (mem_moveToEnd ..).mp hn
      · exact .inl (mem_stations_refreshPeer.mpr (.inl rfl))
      · exact (h4 n hn).imp_left fun hn => mem_stations_refreshPeer.mpr (.inr hn)
    · refine (mem_moveToEnd ..).mpr ((mem_stations_refreshPeer.mp (List.mem_map_of_mem hp)).imp_right fun hn => ?_)
      obtain ⟨q, hq, e⟩ := List.mem_map.mp hn
      exact e ▸ h5 q hq
    · exact (mem_moveToEnd ..).mpr (.inr (h6 ha))
    · exact absurd (hr.symm.trans hr') nofun
  | agePeers h ih =>
    rename_i u
    obtain ⟨h1, h2, h3, h4, h5, h6, h7⟩ := ih
    have stays : ∀ p ∈ u.peers, u.fallsSilent p = false → p.station ∈ u.agePeers.peers.map (·.station) :=
      fun p hp hs => by
        simp only [State.agePeers, List.map_map]
        exact List.mem_map.mpr ⟨p, List.mem_filter.mpr ⟨hp, by simp [hs]⟩, rfl⟩
    have stations : (u.agePeers.peers.map (·.station)).Sublist (u.peers.map (·.station)) := by
      simp only [State.agePeers, List.map_map]
      exact List.filter_sublist.map _
    refine ⟨h1.sublist stations, fun p hp => ?_, h3.filter _, fun n hn => ?_, fun p hp => ?_, fun ha => ?_, fun hr => ?_⟩
    · obtain ⟨q, hq, rfl⟩ := List.mem_map.mp hp
      obtain ⟨ha, hb, hc, hd⟩ := h2 q (List.mem_of_mem_filter hq)
      exact ⟨ha, hb, hc, congrArg (· + 1) hd⟩
    · obtain ⟨hn, hs⟩ := List.mem_filter.mp hn
      refine (h4 n hn).imp_left fun hn => ?_
      obtain ⟨p, hp, rfl⟩ := List.mem_map.mp hn
      exact stays p hp (by simpa [agePeers_station h1 hp] using hs)
    · obtain ⟨q, hq, rfl⟩ := List.mem_map.mp hp
      obtain ⟨hq, hs⟩ := List.mem_filter.mp hq
      exact List.mem_filter.mpr ⟨h5 q hq, by simpa [Peer.grow, agePeers_station h1 hq] using hs⟩
    · refine List.mem_filter.mpr ⟨h6 ha, ?_⟩
      simp only [Bool.not_eq_true', List.any_eq_false, Bool.and_eq_true, beq_iff_eq, not_and]
      exact fun p hp hs => absurd hs (h2 p hp).2.2.1
    · simp [State.agePeers, (h7 hr).1, (h7 hr).2]
  | writeRecord h n r ih =>
    rename_i u
    obtain ⟨h1, h2, h3, h4, h5, h67⟩ := ih
    have stations : (u.writeRecord n r).peers.map (·.station) = u.peers.map (·.station) := by
      simp only [State.writeRecord_peers, List.map_map]
      exact List.map_congr_left fun p _ => by simp only [Function.comp_apply]; split <;> rfl
    refine ⟨stations ▸ h1, fun p hp => ?_, h3, stations ▸ h4, fun p hp => ?_, h67.1, fun hr => ?_⟩
    · obtain ⟨q, hq, rfl⟩ := List.mem_map.mp hp
      split <;> exact h2 q hq
    · obtain ⟨q, hq, rfl⟩ := List.mem_map.mp hp
      split <;> exact h5 q hq
    · simp [(h67.2 hr).1, (h67.2 hr).2]
  | silence h hr ih =>
    rename_i u
    obtain ⟨_, _, _, e⟩ := u.silence_touches
    obtain ⟨h1, h2, h3, h4, h5, -, -⟩ := ih
    rw [e]
    refine ⟨h1, h2, h3.filter _, fun n hn => ?_, fun p hp => ?_, nofun, nofun⟩
    · obtain ⟨hn, ho⟩ := List.mem_filter.mp hn
      exact (h4 n hn).imp_right fun h => absurd h.1 (by simpa using ho)
    · exact List.mem_filter.mpr ⟨h5 p hp, by simpa using (h2 p hp).2.2.1⟩
  | takeRestart h hr ih =>
    rename_i u
    obtain ⟨_, _, _, e⟩ := u.takeRestart_touches
    rw [e]
    simp [State.RosterLaw]
  | acceptImage h image hr ih =>
    rename_i u
    obtain ⟨_, _, e⟩ := u.acceptImage_touches image
    obtain ⟨hp, ho⟩ := ih.2.2.2.2.2.2 (by simp [State.station_of_readComplete hr])
    rw [e]
    simp [State.RosterLaw, hp, ho]
  | refuseImage h hr ih =>
    have hn := ih.2.2.2.2.2.2 (by simp [State.station_of_readComplete hr])
    simp [State.RosterLaw, State.refuseImage, State.endRead, hn.1, hn.2]
  | finishFrame h hc ih =>
    have ha := not_not.mp fun ha => ((h.keeps_quietStation hq₀).1 ha).2.1 hc
    obtain ⟨h1, h2, h3, h4, h5, -, h7⟩ := ih
    refine ⟨h1, h2, nodup_moveToEnd _ h3, fun n hn => ?_, fun p hp => ?_, fun _ => ?_, fun hr => ?_⟩
    · obtain rfl | hn := (mem_moveToEnd ..).mp hn
      · exact .inr ⟨rfl, ha⟩
      · exact h4 n hn
    · exact (mem_moveToEnd ..).mpr (.inr (h5 p hp))
    · exact (mem_moveToEnd ..).mpr (.inl rfl)
    · simp [State.finishFrame, ha] at hr
  | _ => assumption

end Within

end Sys2Proof.Machine
end

section
/-! SUPPORT. The laws of the inputs, the loader and the sync state, and what no elementary update moves. -/

namespace Sys2Proof.Machine

namespace Within

variable {s₀ s : State}

/-- The waiting commands, both halves of line time, and what the overtaken step's queue is told. -/
abbrev SameClock (s₀ s : State) : Prop :=
  s.pending = s₀.pending ∧ s.localTime = s₀.localTime ∧ s.correction = s₀.correction ∧
    s.queueShutFrom = s₀.queueShutFrom

/-- No elementary update moves local time, the correction or the waiting commands (R1, R2). -/
theorem keeps_clock (h : Within s₀ s) : SameClock s₀ s := by
  induction h with
  | start | transmit => exact ⟨rfl, rfl, rfl, rfl⟩
  | arrive h kind d q p r _ ih =>
    obtain ⟨_, _, _, e⟩ := State.arrive_touches kind d q p r _
    rwa [e]
  | silence h hr ih =>
    rename_i u
    obtain ⟨_, _, _, e⟩ := u.silence_touches
    rwa [e]
  | takeRestart h hr ih =>
    rename_i u
    obtain ⟨_, _, _, e⟩ := u.takeRestart_touches
    rwa [e]
  | acceptImage h image hr ih =>
    rename_i u
    obtain ⟨_, _, e⟩ := u.acceptImage_touches image
    rwa [e]
  | _ => assumption

/-- A station that receives frames is not in the configuration read. -/
theorem receives_of_guard {u : State} (hl : u.ConfigurationLaw)
    (h : u.station.receives = true ∨ u.line.condition ≠ .off) : u.station.receives = true :=
  h.elim id fun hc => by simpa [← hl.2.1] using hc

theorem keeps_inputs (h : Within s₀ s) (hc₀ : s₀.ConfigurationLaw) (hl : s₀.InputLaw) : s.InputLaw := by
  induction h with
  | start | transmit => exact hl
  | inputs h ins pins hi ih => exact fun hs => hi hs (ih hs)
  | arrive h kind d q p r _ ih =>
    obtain ⟨_, _, _, e⟩ := State.arrive_touches kind d q p r _
    rwa [e]
  | activate h hs ih => exact fun _ => ih (by simp [StationState.samples_eq_receives, hs])
  | silence h hr ih =>
    rename_i u
    obtain ⟨_, _, _, e⟩ := u.silence_touches
    rw [e]
    exact fun _ => ih (by rw [StationState.samples_eq_receives, hr])
  | takeRestart h hr ih =>
    rename_i u
    obtain ⟨_, _, _, e⟩ := u.takeRestart_touches
    have hr := receives_of_guard (h.keeps_configuration hc₀) hr
    rw [e]
    exact fun _ => ih (by rw [StationState.samples_eq_receives, hr])
  | acceptImage h image hr ih =>
    rename_i u
    obtain ⟨_, _, e⟩ := u.acceptImage_touches image
    rw [e]
    exact fun _ i => by simp
  | refuseImage h hr ih => exact nofun
  | _ => assumption

/-- A station that receives frames has no configuration read in progress. -/
theorem not_reading {u : State} (hl : u.LoaderLaw) (hr : u.station.receives = true) : ¬u.reading = true := fun h => by
  simp [(hl.1 h).1] at hr

theorem keeps_loader (h : Within s₀ s) (hc₀ : s₀.ConfigurationLaw) (hl : s₀.LoaderLaw) : s.LoaderLaw := by
  induction h with
  | start | transmit => exact hl
  | arrive h kind d q p r _ ih =>
    obtain ⟨_, _, _, e⟩ := State.arrive_touches kind d q p r _
    rwa [e]
  | activate h hs ih =>
    have hn := not_reading ih (by simp [hs])
    exact ⟨fun hr => absurd hr hn, ih.2⟩
  | silence h hr ih =>
    rename_i u
    obtain ⟨_, _, _, e⟩ := u.silence_touches
    have hn := not_reading ih hr
    rw [e]
    exact ⟨fun h => absurd h hn, ih.2⟩
  | takeRestart h hr ih =>
    rename_i u
    obtain ⟨_, _, _, e⟩ := u.takeRestart_touches
    have hr := receives_of_guard (h.keeps_configuration hc₀) hr
    have hn := not_reading ih hr
    rw [e]
    exact ⟨fun h => absurd h hn, ih.2⟩
  | release h m hh hm ih =>
    obtain ⟨hs, ht⟩ := (h.keeps_configuration hc₀).2.2.1 hh
    exact ⟨fun _ => ⟨hs, rfl, hm, by simp [ht], by simp [ht]⟩, nofun⟩
  | acceptImage h image hr ih =>
    rename_i u
    obtain ⟨_, _, e⟩ := u.acceptImage_touches image
    rw [e]
    exact ⟨nofun, fun _ => rfl⟩
  | refuseImage h hr ih => exact ⟨nofun, fun _ => rfl⟩
  | _ => assumption

theorem keeps_sync (h : Within s₀ s) (hl : s₀.SyncLaw) : s.SyncLaw := by
  induction h with
  | start | transmit => exact hl
  | arrive h kind d q p r _ ih =>
    obtain ⟨_, _, _, e⟩ := State.arrive_touches kind d q p r _
    rwa [e]
  | silence h hr ih =>
    rename_i u
    obtain ⟨_, _, _, e⟩ := u.silence_touches
    rwa [e]
  | takeRestart h hr ih =>
    rename_i u
    obtain ⟨_, _, _, e⟩ := u.takeRestart_touches
    obtain ⟨h1, h2, h3, h4, h5, h6⟩ := ih
    rw [e]
    refine ⟨?_, Nat.zero_le _, fun hk => ?_, fun ha => ?_, fun ha => ?_, fun hn => absurd rfl hn⟩
    · dsimp only; split <;> omega
    · exact (if_pos hk).trans (h3 hk)
    · dsimp only; split <;> simp [h4 ha]
    · dsimp only; split <;> simp [h5 ha]
  | acceptImage h image hr ih =>
    rename_i u
    obtain ⟨_, _, e⟩ := u.acceptImage_touches image
    rwa [e]
  | _ => assumption

end Within

/-! ### The line time unit's own work (R8) -/

/-- The table of R14 to R17 keeps the sync law. -/
theorem settleUnit_keeps_sync (s : State) (hl : s.SyncLaw) : s.settleUnit.SyncLaw := by
  obtain ⟨h1, h2, h3, h4, h5, h6⟩ := hl
  have key : ∀ n w, let v := transition n w ⟨s.sync, s.lockCount, s.driftCount⟩
      v.lockCount ≤ 3 ∧ v.driftCount ≤ 2 ∧ (syncInLock v.sync = true → v.lockCount = 3) ∧
      (v.sync = .alone → v.lockCount = 0) ∧ (v.sync = .acquiring → v.lockCount ≤ 2) ∧
      (v.driftCount ≠ 0 → v.sync = .adrift) := by
    intro n w
    unfold transition
    cases hs : s.sync <;> simp only [State.inLock, hs, syncInLock] at h3 h4 h5 h6 ⊢ <;> repeat' split
    all_goals simp_all <;> omega
  exact key _ _

/-- A settle timer that expires runs in a station that receives frames (R7). -/
theorem State.receives_of_settleExpires {s : State} (h : s.settleExpires = true) : s.station.receives = true :=
  (Bool.and_eq_true_iff.mp h).1

theorem settleUnit_keeps_configuration (s : State) (he : s.settleExpires = true) (hl : s.ConfigurationLaw) :
    s.settleUnit.ConfigurationLaw := by
  have hr := State.receives_of_settleExpires he
  obtain ⟨h1, h2, h3, -⟩ := hl
  exact ⟨h1.trans (by simp [State.settleUnit]), h2, h3, fun h => absurd (hr.symm.trans h) nofun⟩

/-! ### A tick -/

theorem tick_keeps_configuration (s : State) (hl : s.ConfigurationLaw) : s.tick.ConfigurationLaw := by
  obtain ⟨_, _, _, _, e, -, ht⟩ := s.tick_touches
  obtain ⟨h1, h2, h3, h4⟩ := hl
  rw [e]
  exact ⟨h1, h2, fun hh => ⟨(h3 hh).1, (ht hh).trans (h3 hh).2⟩, h4⟩

theorem tick_keeps_inputs (s : State) (hl : s.InputLaw) : s.tick.InputLaw := by
  obtain ⟨_, _, _, _, e, hi, -⟩ := s.tick_touches
  rw [e]
  exact fun hs i => (hi i).trans (hl hs i)

/-- With no event of its own due, the station is not at the read's last tick (R181). -/
theorem State.not_readComplete {s : State} (h : s.ownEvent = none) : s.readComplete = false := by
  by_contra hr
  simp [State.ownEvent, State.ownEvents, Instr.dueIf, hr] at h

theorem length_bytesBits (l : List Byte) : (bytesBits l).length = 8 * l.length := by
  induction l with
  | nil => rfl
  | cons b rest ih => simp [bytesBits, byteBits, ih]; omega

theorem State.clockIn_samplesDin (s : State) : s.clockIn.samplesDin = s.samplesDin := by
  unfold State.clockIn
  split <;> rfl

theorem State.clockIn_cfgDinPin (s : State) : s.clockIn.cfgDinPin = s.cfgDinPin := by
  unfold State.clockIn
  split <;> rfl

/-- A tick with RESET_N high, field by field: the loader takes the bit of a rising edge of CFG_CLK (R181). -/
theorem State.tick_eq {s : State} (h : s.resetHeld = false) :
    s.tick =
      { s with
        localTime := s.localTime + 1
        pairs := Vector.ofFn fun p => { s.pairs[p] with moment := none }
        inputs := Vector.ofFn fun i => { s.inputs[i] with sampled := false }
        imageBits := s.imageBits ++ if s.tick.samplesDin then [s.tick.cfgDinPin] else [] } := by
  unfold State.tick
  rw [if_neg (by simp [h]), clockIn_samplesDin, clockIn_cfgDinPin]
  unfold State.clockIn
  split <;> simp

/-- CFG_DIN is sampled at the rising edge of CFG_CLK in a data position of the read, and there alone (R181). -/
theorem State.samplesDin_iff (s : State) :
    s.samplesDin = true ↔
      s.reading = true ∧ s.localTime.toNat < 3168 ∧ 24 ≤ s.localTime.toNat / 4 ∧ s.localTime.toNat % 4 = 2 := by
  simp [State.samplesDin, State.cfgSelPin, configReadTicks, and_assoc]

/-- Where it is sampled, CFG_DIN shows the memory's bit of that period (R181). -/
theorem State.cfgDinPin_of_samplesDin {s : State} (h : s.samplesDin = true) :
    s.cfgDinPin = (bytesBits s.cfgMemory)[s.localTime.toNat / 4 - 24]?.getD true := by
  obtain ⟨hr, ht, hd, -⟩ := s.samplesDin_iff.mp h
  have hsel : s.cfgSelPin = false := by simp [State.cfgSelPin, hr, configReadTicks, ht]
  rw [State.cfgDinPin, hsel, if_neg (by simpa using hd)]

theorem tick_keeps_loader (s : State) (hn : s.ownEvent = none) (hl : s.LoaderLaw) : s.tick.LoaderLaw := by
  cases hh : s.resetHeld with
  | true => simpa [State.tick, hh] using hl
  | false =>
    have e := State.tick_eq hh
    have hread : s.tick.reading = s.reading := by rw [e]
    refine ⟨fun hr => ?_, fun hr => ?_⟩ <;> rw [hread] at hr
    · obtain ⟨hs, -, hm, ht, hb⟩ := hl.1 hr
      have hlt : s.localTime.toNat ≠ 3168 := fun h => by
        have hc := State.not_readComplete hn
        have : s.localTime = configReadTicks := BitVec.eq_of_toNat_eq h
        simp [State.readComplete, hs, hr, this] at hc
      have htick : s.tick.localTime.toNat = s.localTime.toNat + 1 := by
        rw [e]
        exact (BitVec.toNat_add ..).trans (Nat.mod_eq_of_lt (by simp; omega))
      have hmem : s.tick.cfgMemory = s.cfgMemory := by rw [e]
      have hbits : s.tick.imageBits =
          s.imageBits ++ if s.tick.samplesDin then [s.tick.cfgDinPin] else [] := congrArg State.imageBits e
      refine ⟨by rw [e]; exact hs, by rw [e]; exact hh, hmem ▸ hm, by omega, ?_⟩
      rw [hbits, hb, htick, hmem]
      split <;> rename_i hd
      · obtain ⟨-, -, h24, h2⟩ := s.tick.samplesDin_iff.mp hd
        rw [htick] at h24 h2
        have hk : (s.localTime.toNat + 1 + 2) / 4 - 24 = (s.localTime.toNat + 2) / 4 - 24 + 1 := by omega
        have hj : (s.localTime.toNat + 1) / 4 - 24 = (s.localTime.toNat + 2) / 4 - 24 := by omega
        have hin : (s.localTime.toNat + 2) / 4 - 24 < (bytesBits s.cfgMemory).length := by
          rw [length_bytesBits]
          omega
        rw [State.cfgDinPin_of_samplesDin hd, htick, hmem, hk, hj, List.take_add_one, List.getElem?_eq_getElem hin]
        rfl
      · rw [State.samplesDin_iff, hread, htick] at hd
        have hk : (s.localTime.toNat + 1 + 2) / 4 - 24 = (s.localTime.toNat + 2) / 4 - 24 := by
          simp only [hr, true_and, not_and] at hd
          omega
        rw [hk, List.append_nil]
    · have hd : ¬s.tick.samplesDin = true := fun hd => by
        have := (s.tick.samplesDin_iff.mp hd).1
        rw [hread, hr] at this
        exact absurd this nofun
      rw [e]
      exact (congrArg₂ (· ++ ·) (hl.2 hr) (if_neg hd)).trans rfl

end Sys2Proof.Machine
end

section
/-! Statements of chapter 1, and the laws every step keeps. -/

namespace Sys2Proof.Machine

/-- The laws of the station that a step keeps jointly. -/
abbrev State.StationLaws (s : State) : Prop :=
  s.ConfigurationLaw ∧ s.QuietStationLaw ∧ s.QueueOrder ∧ s.RosterLaw

theorem initial_stationLaws (s : State) : s.initial.StationLaws := by
  refine ⟨?_, ?_, ?_, ?_⟩
  · simp [State.ConfigurationLaw, State.initial, State.reset, LineInterface.blank]
  · simp [State.QuietStationLaw, State.initial, State.reset, LineInterface.blank]
  · simp [State.QueueOrder, InQueueOrder, State.initial, State.reset, LineInterface.blank]
  · simp [State.RosterLaw, State.initial, State.reset]

theorem step_keeps_stationLaws {s t : State} (hx : step s = .next t) (h : s.StationLaws) : t.StationLaws := by
  refine step_keeps (P := State.StationLaws) (fun _ _ h => h) (fun s _ => initial_stationLaws s) (fun _ _ h => h)
    (fun hw ⟨hc, hq, ho, hr⟩ =>
      ⟨hw.keeps_configuration hc, hw.keeps_quietStation hq, hw.keeps_queueOrder hc ho, hw.keeps_roster hq hr⟩)
    (fun s he ⟨hc, hq, ho, hr⟩ => ⟨settleUnit_keeps_configuration s he hc, hq, ho, hr⟩)
    (fun s _ ⟨hc, hq, ho, hr⟩ => ?_) hx h
  have hc' := tick_keeps_configuration s hc
  obtain ⟨_, _, _, _, e, -, -⟩ := s.tick_touches
  rw [e] at hc' ⊢
  exact ⟨hc', hq, ho, hr⟩

/-- No step ends inside an overtaken one: what its queue was told is forgotten (R158). -/
theorem exec_queueShutFrom {i : Instr} {s t : State} (hx : exec i s = .next t) (h : s.queueShutFrom = none) :
    t.queueShutFrom = none := by
  obtain ⟨-, rfl⟩ | (hw | ⟨-, -, hw⟩) | ⟨_, u, -, rfl⟩ := exec_within hx
  · rfl
  · exact hw.keeps_clock.2.2.2.trans h
  · exact hw.keeps_clock.2.2.2.trans h
  · exact Within.start.duplicateFound.keeps_clock.2.2.2

theorem step_queueShutFrom {s t : State} (hx : step s = .next t) (h : s.queueShutFrom = none) :
    t.queueShutFrom = none := by
  unfold step at hx
  split at hx
  · exact exec_queueShutFrom hx h
  · split at hx
    · exact exec_queueShutFrom hx h
    · cases hx
      obtain ⟨_, _, _, _, e, -, -⟩ := s.tick_touches
      rw [e]
      exact h

theorem step_keeps_inputs {s t : State} (hx : step s = .next t) (h : s.ConfigurationLaw ∧ s.InputLaw) :
    t.ConfigurationLaw ∧ t.InputLaw :=
  step_keeps (P := fun s => s.ConfigurationLaw ∧ s.InputLaw) (fun _ _ h => h)
    (fun s _ => ⟨(initial_stationLaws s).1, nofun⟩) (fun _ _ h => h)
    (fun hw ⟨hc, hi⟩ => ⟨hw.keeps_configuration hc, hw.keeps_inputs hc hi⟩)
    (fun s he ⟨hc, hi⟩ => ⟨settleUnit_keeps_configuration s he hc, hi⟩)
    (fun s _ ⟨hc, hi⟩ => ⟨tick_keeps_configuration s hc, tick_keeps_inputs s hi⟩) hx h

theorem step_keeps_loader {s t : State} (hx : step s = .next t) (h : s.ConfigurationLaw ∧ s.LoaderLaw) :
    t.ConfigurationLaw ∧ t.LoaderLaw :=
  step_keeps (P := fun s => s.ConfigurationLaw ∧ s.LoaderLaw) (fun _ _ h => h)
    (fun s _ => ⟨(initial_stationLaws s).1, nofun, fun _ => rfl⟩) (fun _ _ h => h)
    (fun hw ⟨hc, hl⟩ => ⟨hw.keeps_configuration hc, hw.keeps_loader hc hl⟩)
    (fun s he ⟨hc, hl⟩ => ⟨settleUnit_keeps_configuration s he hc, hl⟩)
    (fun s hn ⟨hc, hl⟩ => ⟨tick_keeps_configuration s hc, tick_keeps_loader s hn hl⟩) hx h

/-- Settles O57: every part of a step keeps the laws (`Within`), and so does every step. -/
theorem stepsKeepStationLaws : Obligations.StepsKeepStationLaws := fun s t hx hc =>
  ⟨fun hq hu hr => by
    obtain ⟨hshut, ho⟩ := s.queueLaw_iff.mp hu
    obtain ⟨hc', hq', ho', hr'⟩ := step_keeps_stationLaws hx ⟨hc, hq, ho, hr⟩
    exact ⟨hc', hq', t.queueLaw_iff.mpr ⟨step_queueShutFrom hx hshut, ho'⟩, hr'⟩,
    fun hi => (step_keeps_inputs hx ⟨hc, hi⟩).2, fun hl => (step_keeps_loader hx ⟨hc, hl⟩).2⟩

/-- Settles O12: the table of R14 to R17 keeps the sync law, and nothing but a restart moves the counts besides. -/
theorem stepsKeepSyncLaw : Obligations.StepsKeepSyncLaw := fun s t hs hx =>
  step_keeps (P := State.SyncLaw) (fun _ _ h => h)
    (fun s _ => by simp [State.SyncLaw, State.inLock, syncInLock, State.initial, State.reset]) (fun _ _ h => h)
    (fun hw h => hw.keeps_sync h) (fun s _ h => settleUnit_keeps_sync s h)
    (fun s _ h => by
      obtain ⟨_, _, _, _, e, -, -⟩ := s.tick_touches
      rwa [e]) hx hs

/-- Settles O4: no elementary update moves the clock; only resets and the line time unit's own work do. -/
theorem onlySettlePointsMoveLineTime : Obligations.OnlySettlePointsMoveLineTime := by
  intro i s t hx
  have becomes : ∀ {c : Prop} {s t : State}, s.Becomes c t →
      t.pending = s.pending ∧ t.localTime = s.localTime ∧ (¬c → t.correction = s.correction) := by
    rintro c s t (hw | ⟨hc, -, hw⟩)
    · obtain ⟨hp, ht, hk, -⟩ := hw.keeps_clock
      exact ⟨hp, ht, fun _ => hk⟩
    · obtain ⟨hp, ht, -, -⟩ := hw.keeps_clock
      exact ⟨hp, ht, fun h => absurd hc h⟩
  obtain ⟨hi, rfl⟩ | h | ⟨_, u, h, rfl⟩ := exec_within hx
  · exact ⟨rfl, fun h1 h2 => absurd hi (not_or.mpr ⟨h1, h2⟩)⟩
  · obtain ⟨hp, ht, hk⟩ := becomes h
    exact ⟨hp, fun _ _ => ⟨ht, fun ho _ => hk (not_exists.mpr ho)⟩⟩
  · obtain ⟨hp, ht, hk⟩ := becomes h
    obtain ⟨hp', ht', hk', -⟩ := (Within.start (s₀ := { u with queueShutFrom := none })).duplicateFound.keeps_clock
    refine ⟨hp'.trans hp, fun _ _ => ⟨ht'.trans ht, fun _ hd => hk'.trans (hk ?_)⟩⟩
    rintro ⟨k, f, order, n, rfl⟩
    exact hd k f order n rfl

end Sys2Proof.Machine
end

section
/-! The step on an empty queue, the state after reset, and the comparison of moments. -/

namespace Sys2Proof.Machine

/-- Settles O2: the step's three cases on an empty queue, the last of them a tick. -/
theorem stepOnEmptyQueue : Obligations.StepOnEmptyQueue := by
  intro s hp
  refine ⟨fun c hc => by simp [step, hp, hc], fun hn hh => ?_, fun hn hh => ⟨s.tick, by simp [step, hp, hn], ?_⟩⟩
  · have ht : s.tick = s := by rw [State.tick, if_pos hh]
    simp [step, hp, hn, ht]
  · have e := State.tick_eq hh
    refine ⟨?_, ?_, ?_, fun p => ?_, fun i => ?_, congrArg State.imageBits e⟩
    · rw [e]
      exact BitVec.toNat_add ..
    · rw [e]
      exact add_right_comm ..
    · conv_lhs => rw [e]
      conv_rhs => rw [e]
    · rw [e]
      simp
    · rw [e]
      simp

/-- Settles O5: each law holds of a state in which nothing is held, queued or known. -/
theorem resetMeetsEveryLaw : Obligations.ResetMeetsEveryLaw := by
  refine ⟨?_, ?_, ?_, ?_, ?_, ?_, ?_, ?_, ?_, ?_, ?_, ?_, ?_, ?_, ?_, ?_⟩
  case refine_1 => simp [State.ScheduleLaw, State.reset]
  case refine_2 => simp [State.TemplateLaw, State.reset]
  case refine_3 => simp [State.QueueLaw, State.reset, LineInterface.blank]
  case refine_4 => simp [State.QuietStationLaw, State.reset, LineInterface.blank]
  case refine_5 => simp [State.LogLaw, State.reset]
  case refine_6 => simp [State.TagLaw, State.reset]
  case refine_7 => simp [State.RosterLaw, State.reset]
  case refine_8 => simp [State.HoldLaw, State.reset, Channel.blank]
  case refine_9 => simp [State.PairLaw, State.reset, Pair.blank, Settings.blank]
  case refine_10 => simp [State.FollowLaw, State.reset, Settings.blank]
  case refine_11 => simp [State.SyncLaw, State.reset, State.inLock, syncInLock]
  case refine_12 => simp [State.GeneratorLaw, State.reset, Channel.blank, Channel.generates]
  case refine_13 => simp [State.InputLaw, State.reset, StationState.samples]
  case refine_14 => simp [State.LoaderLaw, State.reset]
  case refine_15 => simp [State.ConfigurationLaw, State.reset, LineInterface.blank]
  case refine_16 => simp [State.SettingsLaw, State.reset]

/-! ### Moments (R3) -/

theorem forward_eq (a b : Time) : forward a b = (b.toNat + (4294967296 - a.toNat)) % 4294967296 := by
  rw [forward, BitVec.toNat_sub, Nat.add_comm]

/-- A moment is reached when its forward distance is 0 or at least 2^31 (R3). -/
theorem isReached_iff (now t : Time) : isReached now t = true ↔ forward now t = 0 ∨ 2147483648 ≤ forward now t := by
  simp [isReached]

theorem isReached_eq_false_iff (now t : Time) :
    isReached now t = false ↔ 1 ≤ forward now t ∧ forward now t ≤ 2147483647 := by
  rw [← Bool.not_eq_true, isReached_iff]
  omega

/-- The signed difference is the forward distance read in -2^31..2^31-1 (R3). -/
theorem signedDiff_eq (a b : Time) :
    signedDiff a b = if 2147483648 ≤ forward a b then (forward a b : Int) - 4294967296 else forward a b := by
  rw [signedDiff, BitVec.toInt_eq_toNat_cond]
  change (if 2 * forward a b < 4294967296 then (forward a b : Int) else (forward a b : Int) - 4294967296) = _
  split <;> split <;> omega

theorem signedDiff_eq_iff (a b : Time) {d : Int} (h1 : -2147483648 ≤ d) (h2 : d ≤ 2147483647) :
    signedDiff a b = d ↔ b = a + BitVec.ofInt 32 d := by
  have hd : (BitVec.ofInt 32 d).toInt = d := by
    rw [BitVec.toInt_ofInt]
    exact Int.bmod_eq_of_le (by omega) (by omega)
  constructor
  · intro h
    have : b - a = BitVec.ofInt 32 d := BitVec.eq_of_toInt_eq (h.trans hd.symm)
    rw [← this, add_sub_cancel]
  · rintro rfl
    rw [signedDiff, add_sub_cancel_left, hd]

/-- The reach limit is tested on the forward distance (R27, R43). -/
theorem State.beyondReach_eq_false_iff (s : State) (e : Entry) :
    s.beyondReach e = false ↔ 1 ≤ s.aheadBy e.due ∧ s.aheadBy e.due ≤ 100000000 := by
  rw [State.beyondReach, Bool.or_eq_false_iff, decide_eq_false_iff_not]
  refine (and_congr_left fun _ => isReached_eq_false_iff ..).trans ?_
  change (1 ≤ s.aheadBy e.due ∧ s.aheadBy e.due ≤ 2147483647) ∧ ¬100000000 < s.aheadBy e.due ↔ _
  omega

/-- A channel check that fails gives neither OK nor REPLACED (R30). -/
theorem State.checkChannel_error {n : Nat} {a : Action} {s : State} {code : ResultCode}
    (h : s.checkChannel n a = .error code) : code ≠ .ok ∧ code ≠ .replaced := by
  unfold State.checkChannel at h
  dsimp only at h
  repeat' split at h
  all_goals cases h
  all_goals exact ⟨nofun, nofun⟩

/-- An ARM that is accepted does not lie beyond the horizon (R32). -/
theorem State.arm_aheadBy {origin : Nat} {r : ArmRequest} {s : State}
    (h : (s.arm origin r).2 = .ok ∨ (s.arm origin r).2 = .replaced) (hd : s.lineReached r.due = false) :
    s.aheadBy r.due ≤ 50000000 := by
  by_contra hf
  have hh : horizon < s.aheadBy r.due := Nat.not_le.mp hf
  unfold State.arm at h
  split at h
  case h_1 code hc =>
    obtain ⟨h1, h2⟩ := State.checkChannel_error hc
    exact h.elim h1 h2
  case h_2 c hc =>
    simp only [hd, hh] at h
    repeat' split at h
    all_goals simp_all

/-- Settles O6: each comparison is one of the forward distance. -/
theorem momentsCompareByForwardDistance : Obligations.MomentsCompareByForwardDistance := fun s a b =>
  ⟨forward_eq a b, rfl, isReached_iff _ _, isReached_eq_false_iff _ _, signedDiff_eq a b,
    fun _ h1 h2 => signedDiff_eq_iff a b h1 h2, fun _ _ h hd => State.arm_aheadBy h hd, s.beyondReach_eq_false_iff⟩

end Sys2Proof.Machine
end

section
/-! Delta of a value list, frames at the peer table and the roster, the line's own events, and the pins. -/

namespace Sys2Proof.Machine

/-! ### Delta (R10) -/

theorem largest_mem (v : Int) (l : List Int) : largest v l ∈ v :: l := by
  unfold largest
  induction l generalizing v with
  | nil => simp
  | cons x rest ih =>
    have h := ih (max v x)
    simp only [List.foldl_cons, List.mem_cons] at h ⊢
    grind

theorem smallest_mem (v : Int) (l : List Int) : smallest v l ∈ v :: l := by
  unfold smallest
  induction l generalizing v with
  | nil => simp
  | cons x rest ih =>
    have h := ih (min v x)
    simp only [List.foldl_cons, List.mem_cons] at h ⊢
    grind

theorem le_largest {v x : Int} {l : List Int} (h : x ∈ v :: l) : x ≤ largest v l := by
  unfold largest
  induction l generalizing v x with
  | nil => simp_all
  | cons y rest ih =>
    have hm : max v y ≤ List.foldl max (max v y) rest := ih (List.mem_cons_self ..)
    obtain rfl | h := List.mem_cons.mp h
    · exact (le_max_left ..).trans hm
    · obtain rfl | h := List.mem_cons.mp h
      · exact (le_max_right ..).trans hm
      · exact ih (List.mem_cons_of_mem _ h)

theorem smallest_le {v x : Int} {l : List Int} (h : x ∈ v :: l) : smallest v l ≤ x := by
  unfold smallest
  induction l generalizing v x with
  | nil => simp_all
  | cons y rest ih =>
    have hm : List.foldl min (min v y) rest ≤ min v y := ih (List.mem_cons_self ..)
    obtain rfl | h := List.mem_cons.mp h
    · exact hm.trans (min_le_left ..)
    · obtain rfl | h := List.mem_cons.mp h
      · exact hm.trans (min_le_right ..)
      · exact ih (List.mem_cons_of_mem _ h)

/-- The midpoint lies in any range that holds every value (R10). -/
theorem midpoint_mem_range {l : List Int} {a b : Int} (hn : l ≠ []) (h : ∀ x ∈ l, a ≤ x ∧ x ≤ b) :
    a ≤ midpoint l ∧ midpoint l ≤ b := by
  cases l with
  | nil => exact absurd rfl hn
  | cons v rest =>
    obtain ⟨h1, h2⟩ := h _ (largest_mem v rest)
    obtain ⟨h3, h4⟩ := h _ (smallest_mem v rest)
    have half : ∀ c : Int, (2 * c).tdiv 2 = c := fun c => Int.mul_tdiv_cancel_left c (by decide)
    rw [midpoint]
    constructor
    · rw [← half a]
      exact Int.tdiv_le_tdiv (by decide) (by omega)
    · rw [← half b]
      exact Int.tdiv_le_tdiv (by decide) (by omega)

/-- From 4 values or more the trim takes one largest and one smallest, and leaves 2 or more (R10). -/
theorem trim_eq {v : Int} {rest : List Int} (h : 4 ≤ (v :: rest).length) :
    trim (v :: rest) = ((v :: rest).erase (largest v rest)).erase (smallest v rest) := if_pos h

/-- What is left after the trim of all values but one in a range lies in that range: the one outside it is the largest
or the smallest. -/
theorem trim_mem_range {values : List Int} {v a b : Int} (hn : 4 ≤ values.length)
    (h : ∀ x ∈ values.erase v, a ≤ x ∧ x ≤ b) : ∀ x ∈ trim values, a ≤ x ∧ x ≤ b := by
  cases values with
  | nil => simp at hn
  | cons w rest =>
    intro x hx
    rw [trim_eq hn] at hx
    by_cases hl : largest w rest = v
    · exact h x (hl ▸ List.mem_of_mem_erase hx)
    · by_cases hs : smallest w rest = v
      · rw [List.erase_comm, hs] at hx
        exact h x (List.mem_of_mem_erase hx)
      · have hla := (h _ ((List.mem_erase_of_ne hl).mpr (largest_mem w rest))).2
        have hsm := (h _ ((List.mem_erase_of_ne hs).mpr (smallest_mem w rest))).1
        have hm := List.mem_of_mem_erase (List.mem_of_mem_erase hx)
        exact ⟨hsm.trans (smallest_le hm), (le_largest hm).trans hla⟩

/-- The trim leaves values, all of them of the list. -/
theorem trim_ne_nil {l : List Int} (h : l ≠ []) : trim l ≠ [] := by
  cases l with
  | nil => exact absurd rfl h
  | cons w rest =>
    by_cases hn : 4 ≤ (w :: rest).length
    · have h1 := List.length_erase_of_mem (largest_mem w rest)
      have h2 := List.le_length_erase (a := smallest w rest) (l := (w :: rest).erase (largest w rest))
      rw [trim_eq hn]
      exact List.ne_nil_of_length_pos (by omega)
    · rw [trim, if_neg hn]
      exact h

theorem mem_of_mem_trim {l : List Int} {x : Int} (h : x ∈ trim l) : x ∈ l := by
  cases l with
  | nil => exact h
  | cons w rest =>
    by_cases hn : 4 ≤ (w :: rest).length
    · rw [trim_eq hn] at h
      exact List.mem_of_mem_erase (List.mem_of_mem_erase h)
    · rwa [trim, if_neg hn] at h

/-- Settles O10: the trim takes the one station's value, or the values all lie in the range. -/
theorem oneStationCannotPull : Obligations.OneStationCannotPull := fun values _ _ _ hn _ h =>
  midpoint_mem_range (trim_ne_nil (List.ne_nil_of_length_pos (by omega))) (trim_mem_range hn h)

/-! ### A clean frame of a peer (R6, R116, R121, R136) -/

/-- The entry of a station other than the sender is as before. -/
theorem find_refreshPeer_ne {n station : Nat} (sample : Time) (reported : SyncState) (l : List Peer) (h : n ≠ station) :
    (refreshPeer station sample reported l).find? (·.station == n) = l.find? (·.station == n) := by
  unfold refreshPeer
  split
  · rename_i hs
    clear hs
    induction l with
    | nil => rfl
    | cons p rest ih =>
      by_cases hp : p.station = station
      · simpa [hp, Ne.symm h] using ih
      · simp only [List.map_cons, List.find?_cons, beq_eq_false_iff_ne.mpr hp, Bool.false_eq_true, if_false, ih]
  · simp [List.find?_append, h.symm]

/-- The sender's entry holds the sample, with nothing aged and its command record kept. -/
theorem find_refreshPeer_self (station : Nat) (sample : Time) (reported : SyncState) (l : List Peer) :
    (refreshPeer station sample reported l).find? (·.station == station) =
      some
        { station := station, sample := sample, age := 0, reported := reported, silence := 0
          record := (l.find? (·.station == station)).bind (·.record) } := by
  unfold refreshPeer
  split <;> rename_i hs
  · induction l with
    | nil => simp at hs
    | cons p rest ih =>
      by_cases hp : p.station = station
      · simp [hp, Peer.refresh]
      · simp only [List.any_cons, beq_eq_false_iff_ne.mpr hp, Bool.false_or] at hs
        simp only [List.map_cons, List.find?_cons, beq_eq_false_iff_ne.mpr hp, Bool.false_eq_true, if_false]
        exact ih hs
  · have hn : l.find? (·.station == station) = none := List.find?_eq_none.mpr (by simpa using hs)
    simp [List.find?_append, hn]

/-- A term that names a command has the meaning of its arm. -/
theorem whenFormed_of_wellFormed {i : Instr} {t u : State} (h : i.wellFormed = true) (e : t = u) :
    whenFormed i t = .next u := whenFormed_eq_next.mpr ⟨h, e⟩

/-- Settles O39: the rows of R136 hand the frame to the roster controller, and to no other block but a counter. -/
theorem framesFeedPeersAndRoster : Obligations.FramesFeedPeersAndRoster := by
  intro s f hr hf
  have taken : ∀ next, s.handOver f next = next (s.receive f) := fun next => by simp [State.handOver, hr, hf]
  refine ⟨?_, fun n hn => find_refreshPeer_ne _ _ _ hn, fun u hu => ?_, fun hw => ?_, fun hw => ?_, fun kind hk hw => ?_,
    fun kind hk hw ha => ?_⟩
  · cases hl : s.line.latched <;> simp [State.receive, moveToEnd, hl]
  · have hs : s.sampleTime = u := by simp [State.sampleTime, hu]
    exact (find_refreshPeer_self ..).trans (by rw [State.sampleOf, hs]; rfl)
  · exact whenFormed_of_wellFormed hw (taken _)
  · exact whenFormed_of_wellFormed hw (taken _)
  · refine whenFormed_of_wellFormed ?_ (taken _)
    obtain rfl | rfl | rfl := hk <;> simp [Instr.wellFormed, FrameKind.isAnswer, hw]
  · refine whenFormed_of_wellFormed (by simp [Instr.wellFormed, hk, hw]) ?_
    rw [if_neg (by simp [ha]), taken]

/-! ### The line's own events (R4, R5, R132, R138 to R142) -/

/-- The station's own transmission is due: the queue holds a frame, and the target is reached by the quiet count or by
the step of it that this moment brings (R138, R139). -/
theorem State.sendDue_iff {s : State} (hq : s.line.condition = .quiet) :
    s.sendDue = true ↔
      s.station = .active ∧ s.queue ≠ [] ∧ ∃ n k, s.line.quietCount = some n ∧ s.line.target = some k ∧
        (k ≤ n ∨ k = n + 1 ∧ n < 63 ∧ s.localReached s.line.nextStep = true) := by
  unfold State.sendDue
  simp only [hq, beq_self_eq_true, Bool.and_true, Bool.and_eq_true, beq_iff_eq, Bool.not_eq_true',
    List.isEmpty_eq_false_iff, and_assoc]
  refine and_congr_right fun _ => and_congr_right fun _ => ?_
  cases hc : s.line.quietCount with
  | none => cases s.line.target <;> simp
  | some n =>
    cases s.line.target with
    | none => simp
    | some k =>
      have hstep : s.quietStepDue = true ↔ n < 63 ∧ s.localReached s.line.nextStep = true := by
        simp only [State.quietStepDue, hq, hc, beq_self_eq_true, Bool.true_and, Option.any_some, Bool.and_eq_true,
          decide_eq_true_iff]
        exact Iff.rfl
      simp only [Option.some.injEq, exists_and_left, exists_eq_left', bitOf]
      rw [← hstep]
      cases s.quietStepDue
      · simp
      · simp only [if_true, and_true, decide_eq_true_iff]
        omega

/-- Settles O42: what is noted of a stretch as it begins and while it is received. -/
theorem stretchIsHeard : Obligations.StretchIsHeard := by
  intro s
  refine ⟨fun passed hq hp => ?_, fun hb hn => ?_⟩
  · obtain rfl : passed = s.sendDue := Bool.eq_iff_iff.mpr (hp.trans (State.sendDue_iff hq).symm)
    simp [exec, execActivityBegins, hq]
  · have hr : s.line.receiving = true := by simp [LineInterface.receiving, hb, hn]
    exact ⟨by simp [exec, execBreakHeard, hr], by simp [exec, execStampPointOfIncomingFrame, hr]⟩

/-- The station begins to transmit when it is ACTIVE and the line QUIET, with a frame queued and the target reached
(R138, R140). -/
theorem State.readyToSend_iff (s : State) :
    s.readyToSend = true ↔
      s.station = .active ∧ s.line.condition = .quiet ∧ s.queue ≠ [] ∧
        ∃ k n, s.line.target = some k ∧ s.line.quietCount = some n ∧ k ≤ n := by
  unfold State.readyToSend
  cases s.line.target <;> cases s.line.quietCount <;> simp [and_assoc]

theorem execTransmissionBegins_of_not_ready {s : State} (h : ¬s.readyToSend = true) :
    exec .transmissionBegins s = .next s := congrArg Host.Outcome.next (if_neg h)

/-- Settles O44: each of the station's own line events, at its moment and before it. -/
theorem deferralAndSending : Obligations.DeferralAndSending := by
  intro s
  refine ⟨fun n hq hc hn hl => ?_, fun n k f rest ha hq hc ht hf => ⟨fun hk => ?_, fun hk => ?_⟩, fun h => ?_,
    fun hc hs hl => ⟨_, ?_, rfl, fun f hf => ?_⟩, fun hc hl => ?_⟩
  · have hd : s.quietStepDue = true := by simp [State.quietStepDue, hq, hc, quietLimit, hn, hl]
    simp [exec, execQuietCountStep, hd, hc, later]
  · have hr : s.readyToSend = true := s.readyToSend_iff.mpr ⟨ha, hq, by simp [hf], k, n, ht, hc, hk⟩
    simp [exec, execTransmissionBegins, hr, hf]
  · refine execTransmissionBegins_of_not_ready fun hr => ?_
    obtain ⟨-, -, -, k', n', ht', hc', hk'⟩ := s.readyToSend_iff.mp hr
    cases ht.symm.trans ht'
    cases hc.symm.trans hc'
    omega
  · refine execTransmissionBegins_of_not_ready fun hr => ?_
    obtain ⟨ha, hq, hf, k, n, ht, hc, -⟩ := s.readyToSend_iff.mp hr
    simp [ha, hq, hf, ht, hc] at h
  · have hd : s.ownStampDue = true := by simp [State.ownStampDue, hc, hs, hl]
    simp [exec, execStampPointOfOwnFrame, hd]
  · have hf' : s.queue.find? (·.onLine) = some f := hf
    simp [State.cellsOnLine, State.frameOnLine, hf', hs]
  · have hd : s.breakEnds = true := by simp [State.breakEnds, hc, hl]
    simp [exec, execBreakRelease, hd]

/-! ### The pins (R20, R55, R71, R78, R130, R192) -/

/-- The halves of a run of cells: two of them for each cell (R130). -/
theorem getElem?_cellHalves (l : List Bool) (n : Nat) :
    (l.flatMap cellHalves)[n]? = l[n / 2]?.map fun b => if n % 2 = 0 then !b else b := by
  induction l generalizing n with
  | nil => simp
  | cons b rest ih =>
    match n with
    | 0 => rfl
    | 1 => rfl
    | n + 2 =>
      rw [Nat.add_div_right _ (by decide), Nat.add_mod_right, List.getElem?_cons_succ, ← ih]
      rfl

/-- The order of R55 below a hold: the pulse, the burst, the generator's phase, the latch. -/
theorem Channel.baseDrive_cases (ch : Channel) :
    (∀ p, ch.pulse = some p → ch.baseDrive = p.level) ∧
    (∀ b, ch.pulse = none → ch.burst = some b → ch.baseDrive = b.activeHalf) ∧
    (ch.pulse = none → ch.burst = none →
      (ch.gen ≠ .stopped → ch.baseDrive = ch.phaseHigh) ∧ (ch.gen = .stopped → ch.baseDrive = ch.latch)) := by
  unfold Channel.baseDrive
  refine ⟨fun p h => by simp [h], fun b h h' => by simp [h, h'], fun h h' => ?_⟩
  cases e : ch.gen <;> simp [h, h']

/-- A channel that is not held and of no pair drives its own value (R55). -/
theorem State.drive_of_free {s : State} {c : Fin 8} (hh : s.isHeld c = false) (hp : s.isPaired c = false) :
    s.drive c = s.channels[c].baseDrive := by simp [State.drive, hh, hp]

theorem State.isHeld_of_pair {s : State} {c : Fin 8} (hp : s.isPaired c = true) :
    s.isHeld c = s.channels[evenOf (pairOf c)].hold.isSome := by
  have hc : s.holder c = evenOf (pairOf c) := if_pos hp
  simp only [State.isHeld, hc]

/-- An enabled pair that is not held drives what its pair controller gives (R71). -/
theorem State.drive_of_pair {s : State} {p : Fin 4} (he : s.settings.pairs[p].enabled = true)
    (hh : s.channels[evenOf p].hold = none) :
    s.drive (evenOf p) = s.pairs[p].drive.even ∧ s.drive (oddOf p) = s.pairs[p].drive.odd := by
  have hpe : pairOf (evenOf p) = p := Fin.ext (by simp [pairOf, evenOf])
  have hpo : pairOf (oddOf p) = p := Fin.ext (by simp [pairOf, oddOf]; omega)
  have hoe : isOdd (evenOf p) = false := by simp [isOdd, evenOf]
  have hoo : isOdd (oddOf p) = true := by simp [isOdd, oddOf]
  have unheld : ∀ c, pairOf c = p → s.isPaired c = true ∧ s.isHeld c = false := fun c hc => by
    have hp : s.isPaired c = true := by simpa only [State.isPaired, hc] using he
    exact ⟨hp, by simp only [State.isHeld_of_pair hp, hc, hh, Option.isSome_none]⟩
  obtain ⟨h1, h2⟩ := unheld _ hpe
  obtain ⟨h3, h4⟩ := unheld _ hpo
  simp only [State.drive, h1, h2, h3, h4, hoe, hoo, hpe, hpo, if_true, if_false, Bool.false_eq_true, and_self]

/-- Settles O58: each output by the part of the state it shows. -/
theorem pinsShowState : Obligations.PinsShowState := by
  intro s
  refine ⟨fun c => ⟨?_, ?_, fun hh => if_pos hh, fun hh hp => ?_⟩, fun p he hh => State.drive_of_pair he hh, ?_, ?_,
    fun hl hs => ?_, ?_, rfl, ?_, ?_, fun n hc hn => ?_⟩
  · rintro (hs | hs) <;> rw [State.pin, hs]
  · rintro (hs | hs | hs) <;> rw [State.pin, hs]
  · rw [State.drive_of_free hh hp]
    exact s.channels[c].baseDrive_cases
  · cases h : s.sync <;> simp [State.syncPin, State.inLock, syncInLock, h]
  · cases h : s.sync <;> simp [State.syncPin, State.inLock, syncInLock, h]
  · have ha := (hl.2.2.2 (by obtain hs | hs := hs <;> simp [hs])).1
    simp [State.syncPin, State.inLock, syncInLock, ha]
  · cases h : s.station <;> simp [State.faultPin, h]
  · intro hc
    simp [State.drivesLine, hc]
  · rintro (hc | hc | hc) <;> simp [State.drivesLine, hc]
  · have hd : s.drivesLine = (s.cellsOnLine[n / 2]?.map fun b => if n % 2 = 0 then !b else b).getD false := by
      rw [State.drivesLine, hc, ← getElem?_cellHalves, hn]
      rfl
    rw [hd]
    refine ⟨fun b hb => by rw [hb]; rfl, fun hb => ?_⟩
    rw [List.getElem?_eq_none hb]
    rfl

end Sys2Proof.Machine
end

section
/-! SUPPORT. What the six acts of a settle point leave: each keeps what it does not name, in any order. -/

namespace Sys2Proof.Machine

/-! ### Acts, firings and drops one after another -/

/-- What each act of a list keeps, all of them keep. -/
theorem foldl_settleAct_keeps {P : State → Prop} {news : SettleNews} {l : List SettleAct}
    (h : ∀ a ∈ l, ∀ u, P u → P (u.settleAct news a)) {u : State} (hu : P u) :
    P (l.foldl (fun t a => t.settleAct news a) u) := by
  induction l generalizing u with
  | nil => exact hu
  | cons a rest ih =>
    exact ih (fun b hb => h b (List.mem_cons_of_mem _ hb)) (h a (List.mem_cons_self ..) u hu)

/-- What the firing of each entry keeps, the firing of all keeps. -/
theorem foldl_fire_keeps {P : State → Prop} {l : List Entry} (h : ∀ e ∈ l, ∀ u, P u → P (u.fire e)) {u : State}
    (hu : P u) : P (l.foldl (fun t e => t.fire e) u) := by
  induction l generalizing u with
  | nil => exact hu
  | cons e rest ih =>
    exact ih (fun x hx => h x (List.mem_cons_of_mem _ hx)) (h e (List.mem_cons_self ..) u hu)

/-- What each drop keeps, all drops keep. -/
theorem foldl_drop_keeps {P : State → Prop} (h : ∀ e u, P u → P (u.drop e)) (l : List Entry) {u : State}
    (hu : P u) : P (l.foldl (fun t e => t.drop e) u) := by
  induction l generalizing u with
  | nil => exact hu
  | cons e rest ih => exact ih (h e u hu)

/-- What a drop, an action, a counted firing and what follows it keep, a firing keeps. -/
theorem fire_keeps {P : State → Prop} (drop : ∀ e u, P u → P (u.drop e))
    (fired : ∀ u n, P u → P { u with counters := { u.counters with fired := n } })
    (action : ∀ c a p u, P u → P (u.takeAction c a p)) (after : ∀ e u, P u → P (u.afterFiring e)) (e : Entry)
    (u : State) (hu : P u) : P (u.fire e) := by
  unfold State.fire
  split
  · exact drop e u hu
  · exact after _ _ (action _ _ _ _ (fired u _ hu))

/-- What every firing and every drop keeps, the schedule's step keeps. -/
theorem stepSchedule_keeps {P : State → Prop} (drop : ∀ e u, P u → P (u.drop e)) (fire : ∀ e u, P u → P (u.fire e))
    (schedule : ∀ u l, P u → P { u with schedule := l }) (change : Int) (u : State) (hu : P u) :
    P (u.stepSchedule change) := by
  have dropped : ∀ v, P v → P v.dropBeyondReach := fun v hv => foldl_drop_keeps drop _ (schedule v _ hv)
  unfold State.stepSchedule
  split
  · exact dropped _ (foldl_fire_keeps (fun e _ => fire e) (schedule u _ hu))
  · split
    · exact dropped u hu
    · exact hu

/-- An order of the acts is the six of them, rearranged (R8). -/
theorem perm_of_isOrder {order : List SettleAct} (h : SettleAct.isOrder order = true) : SettleAct.all.Perm order := by
  simp only [SettleAct.isOrder, Bool.and_eq_true, beq_iff_eq, List.all_eq_true, List.contains_iff_mem] at h
  obtain ⟨hlen, hall⟩ := h
  exact (List.subperm_of_subset (by decide) hall).perm_of_length_le (by rw [hlen]; decide)

/-- Each of the six acts comes once in an order of them (R8). -/
theorem exists_split_of_isOrder {order : List SettleAct} (h : SettleAct.isOrder order = true) (a : SettleAct) :
    ∃ l₁ l₂, order = l₁ ++ a :: l₂ ∧ a ∉ l₁ ∧ a ∉ l₂ := by
  have hp := perm_of_isOrder h
  have hn : order.Nodup := hp.nodup_iff.mp (by decide)
  have ha : a ∈ order := hp.subset (by cases a <;> decide)
  obtain ⟨l₁, l₂, rfl⟩ := List.append_of_mem ha
  have hd := List.nodup_append.mp hn
  exact ⟨l₁, l₂, rfl, fun h => hd.2.2 a h a (List.mem_cons_self ..) rfl, (List.nodup_cons.mp hd.2.1).1⟩

/-! ### The counters of line time and of the generators -/

/-- The counters that only the line time unit advances. -/
abbrev Counters.timing (n : Counters) : Word16 × Word16 × Word16 :=
  (n.clampedCorrections, n.lossesOfLock, n.largeSteps)

/-- The counters that only a generator's step advances. -/
abbrev Counters.frames (n : Counters) : Word16 × Word16 := (n.generatorRestarts, n.framesSkipped)

/-- The counters of line time and of the generators stand at given values. -/
abbrev State.Counts (x : (Word16 × Word16 × Word16) × Word16 × Word16) (s : State) : Prop :=
  (s.counters.timing, s.counters.frames) = x

namespace State.Counts

variable {x : (Word16 × Word16 × Word16) × Word16 × Word16}

theorem countLost {n : Counters} (k : TxKind) (h : (n.timing, n.frames) = x) :
    ((n.countLost k).timing, (n.countLost k).frames) = x := by cases k <;> exact h

theorem arrive {s : State} (h : s.Counts x) (kind : TxKind) (d : Nat) (q : BitVec 4) (p : List Byte) (r : Bool) :
    (s.arrive kind d q p r).Counts x := by
  obtain ⟨-, -, -, e⟩ | ⟨-, -, -, v, -, e⟩ | ⟨-, e⟩ := State.arrive_cases kind d q p r s <;> rw [e]
  · exact h
  · exact countLost v.kind h
  · exact countLost kind h

theorem notice (e : Entry) (o : NoticeOutcome) (s : State) (h : s.Counts x) : (s.notice e o).Counts x := by
  unfold State.notice
  split
  · exact h
  · exact h.arrive ..

theorem drop (e : Entry) (s : State) (h : s.Counts x) : (s.drop e).Counts x := notice _ _ _ h

theorem takeAction (c : Fin 8) (a : Action) (p : Word16) (s : State) (h : s.Counts x) :
    (s.takeAction c a p).Counts x := by
  cases a
  case pulse | burst =>
    unfold State.takeAction
    dsimp only
    split <;> exact h
  all_goals exact h

theorem afterFiring (e : Entry) (s : State) (h : s.Counts x) : (s.afterFiring e).Counts x := by
  unfold State.afterFiring
  dsimp only
  split
  · exact h
  · exact notice _ _ _ h

theorem stepSchedule (change : Int) (s : State) (h : s.Counts x) : (s.stepSchedule change).Counts x :=
  stepSchedule_keeps drop (fire_keeps drop (fun _ _ h => h) takeAction afterFiring) (fun _ _ h => h) change s h

theorem activate {s : State} (h : s.Counts x) : s.activate.Counts x := by
  have joined := arrive (s := { s with station := .active, roster := moveToEnd s.settings.station s.roster }) h
    .hello 31 0 [] false
  unfold State.activate
  dsimp only
  split <;> exact joined

/-- Every act but the generators' leaves the counters of line time and of the generators. -/
theorem settleAct (news : SettleNews) {a : SettleAct} (ha : a ≠ .generators) (s : State) (h : s.Counts x) :
    (s.settleAct news a).Counts x := by
  cases a
  case agePeers => exact h
  case generators => exact absurd rfl ha
  case schedule => exact stepSchedule _ _ h
  case hold =>
    unfold State.settleAct
    dsimp only
    split <;> exact h
  case stampDuty =>
    unfold State.settleAct State.stampDuty
    dsimp only
    split
    · exact h.arrive ..
    · exact h
  case listenCount =>
    unfold State.settleAct State.countListen
    dsimp only
    repeat' split
    · exact activate (s := { s with listenCount := s.listenCount + 1 }) h
    · exact h
    · exact h

end State.Counts

/-- The generators' step leaves the counters of line time. -/
theorem stepGenerators_timing (change : Int) (s : State) :
    (s.stepGenerators change).counters.timing = s.counters.timing := by
  unfold State.stepGenerators
  split
  · rfl
  · split <;> rfl

/-- The line time unit's counters stand after a settle point where its own work left them (R22). -/
theorem settle_timing (order : List SettleAct) (s : State) :
    (s.settle order).counters.timing = s.settleUnit.counters.timing := by
  refine foldl_settleAct_keeps (P := fun u => u.counters.timing = s.settleUnit.counters.timing) (fun a _ u hu => ?_) rfl
  by_cases ha : a = .generators
  · subst ha
    exact (stepGenerators_timing _ u).trans hu
  · have h := State.Counts.settleAct s.settleNews ha u (x := (u.counters.timing, u.counters.frames)) rfl
    exact (congrArg Prod.fst h).trans hu

/-- A settle point at the timer's expiry. -/
theorem exec_settlePoint {order : List SettleAct} {s t : State} (hx : exec (.settlePoint order) s = .next t)
    (he : s.settleExpires = true) : t = s.settle order :=
  ((whenFormed_eq_next.mp hx).2.symm.trans (if_pos he))

end Sys2Proof.Machine
end

section
/-! The line time unit's own work at a settle point: the correction, the sync state, and a loss of lock. -/

namespace Sys2Proof.Machine

/-- After a settle point the line time unit, the control flags, the configured values, the capture unit and the reaction
table are as its own work left them (R7, R8, R10). -/
theorem settle_fields (order : List SettleAct) (s : State) :
    (s.settle order).correction = s.correction + BitVec.ofInt 32 s.settleNews.change ∧
    (⟨(s.settle order).sync, (s.settle order).lockCount, (s.settle order).driftCount⟩ : SyncStatus) = s.settleStatus ∧
    (s.settle order).localTime = s.localTime ∧ (s.settle order).settings = s.settings := by
  obtain ⟨_, _, _, _, _, _, _, _, _, _, _, _, e⟩ := State.settle_touches order s
  rw [e]
  exact ⟨rfl, rfl, rfl, rfl⟩

theorem settle_lineTime (order : List SettleAct) (s : State) : (s.settle order).lineTime = s.settleUnit.lineTime := by
  obtain ⟨hc, -, ht, -⟩ := settle_fields order s
  rw [State.lineTime, hc, ht]
  rfl

theorem syncInLock_iff (c : SyncState) : syncInLock c = true ↔ c = .locked ∨ c = .adrift := by
  cases c <;> simp [syncInLock]

theorem syncInLock_eq_false_iff (c : SyncState) : syncInLock c = false ↔ c = .alone ∨ c = .acquiring := by
  cases c <;> simp [syncInLock]

/-! ### The correction (R12) -/

theorem clampTo_mem (limit : Nat) (d : Int) : -(limit : Int) ≤ clampTo limit d ∧ clampTo limit d ≤ limit := by
  unfold clampTo
  omega

theorem clampTo_eq_self_iff (limit : Nat) (d : Int) : clampTo limit d = d ↔ d.natAbs ≤ limit := by
  unfold clampTo
  omega

theorem correctionChange_of_alone {sync : SyncState} {n : Nat} (hn : 2 ≤ n) (h : syncInLock sync = false) (limit : Nat)
    (d : Int) : correctionChange sync limit n d = d := by
  rw [correctionChange, if_neg (by omega), h]
  rfl

theorem correctionChange_of_inLock {sync : SyncState} {n : Nat} (hn : 2 ≤ n) (h : syncInLock sync = true) (limit : Nat)
    (d : Int) : correctionChange sync limit n d = clampTo limit d := by
  rw [correctionChange, if_neg (by omega), h]
  rfl

/-- The clamp changes delta exactly in lock, with two values or more, beyond the step limit (R12). -/
theorem State.settleClamps_iff (s : State) :
    s.settleClamps = true ↔
      2 ≤ s.valueList.length ∧ (s.sync = .locked ∨ s.sync = .adrift) ∧
        s.settings.stepLimit < s.settleDelta.natAbs := by
  unfold State.settleClamps
  by_cases hn : 2 ≤ s.valueList.length
  · by_cases hl : syncInLock s.sync = true
    · have hc : s.settleNews.change = clampTo s.settings.stepLimit s.settleDelta :=
        correctionChange_of_inLock hn hl _ _
      have hd := clampTo_eq_self_iff s.settings.stepLimit s.settleDelta
      simp only [Bool.and_eq_true, bne_iff_ne, ne_eq, hc, hd, ← syncInLock_iff, State.inLock, hl, decide_eq_true_iff,
        hn, true_and, Nat.not_le]
      exact and_iff_right hn
    · simp [← syncInLock_iff, State.inLock, hl]
  · refine iff_of_false (fun h => hn ?_) (fun h => hn h.1)
    simp only [Bool.and_eq_true, decide_eq_true_iff] at h
    exact h.1.2

/-- Settles O8: the correction moves by the correction change, which the clamp bounds in lock. -/
theorem correctionFollowsR12 : Obligations.CorrectionFollowsR12 := by
  intro order s t hx he
  obtain rfl := exec_settlePoint hx he
  obtain ⟨hc, hs, ht, -⟩ := settle_fields order s
  have hnews : s.settleNews.change =
      correctionChange s.sync s.settings.stepLimit s.valueList.length s.settleDelta := rfl
  refine ⟨fun hn => ?_, fun hn ha => ?_, fun hn hl => ?_, ?_, fun hn hl hw => ?_, ?_⟩
  · rw [hc, hnews, correctionChange, if_pos hn]
    exact add_zero _
  · rw [hc, hnews, correctionChange_of_alone hn ((syncInLock_eq_false_iff _).mpr ha)]
  · obtain ⟨h1, h2⟩ := clampTo_mem s.settings.stepLimit s.settleDelta
    refine ⟨clampTo s.settings.stepLimit s.settleDelta, ?_, h1, h2, fun h => ?_, fun h => ?_,
      (clampTo_eq_self_iff ..).mpr⟩
    · rw [hc, hnews, correctionChange_of_inLock hn ((syncInLock_iff _).mpr hl)]
    · unfold clampTo; omega
    · unfold clampTo; omega
  · rw [State.lineTime, State.lineTime, ht]
    exact add_sub_add_left_eq_sub ..
  · have hw' : inWindow s.settings.lockWindow s.settleDelta = true := decide_eq_true hw
    have := congrArg SyncStatus.sync hs
    simpa [State.settleStatus, transition, hl, hw', Nat.not_le.mpr hn] using this
  · have htim := congrArg Prod.fst (settle_timing order s)
    exact htim.trans (if_congr s.settleClamps_iff rfl rfl)

/-! ### The sync state (R14 to R18) -/

/-- Lock is lost exactly from LOCKED or ADRIFT to ALONE or ACQUIRING (R18). -/
theorem State.lossOfLock_iff (s : State) :
    s.settleNews.lossOfLock = true ↔
      (s.sync = .locked ∨ s.sync = .adrift) ∧ (s.settleStatus.sync = .alone ∨ s.settleStatus.sync = .acquiring) := by
  rw [← syncInLock_iff, ← syncInLock_eq_false_iff]
  simp [State.settleNews, State.inLock]

/-- Settles O9: the table, row by row, for a state in which the lock count is 3 in lock and the drift count 0 outside
ADRIFT. -/
theorem syncStateFollowsTable : Obligations.SyncStateFollowsTable := by
  intro order s t hx he hl
  obtain ⟨-, hs, -, -⟩ := settle_fields order s
  have htim := congrArg (·.2.1) (settle_timing order s)
  rw [← exec_settlePoint hx he] at hs htim
  obtain ⟨-, -, h3, h0, -, hd⟩ := hl
  simp only [State.inLock, syncInLock_iff] at h3
  have hloss := s.lossOfLock_iff
  rw [← congrArg SyncStatus.sync hs] at hloss
  simp only [State.settleStatus, inWindow] at hs
  refine ⟨fun hn => ?_, fun hn hw => ?_, fun hn hw => ?_, htim.trans (if_congr hloss rfl rfl)⟩
  · rw [hn] at hs
    cases h : s.sync <;> simp_all [transition]
  · have hn' : ¬s.valueList.length ≤ 1 := Nat.not_le.mpr hn
    rw [decide_eq_true hw] at hs
    refine ⟨fun h => ?_, fun ⟨h, hk⟩ => ?_, fun ⟨h, hk⟩ => ?_, fun h => ?_, fun h => ?_⟩
    case refine_2 =>
      have : ¬3 ≤ s.lockCount + 1 := by omega
      simp_all [transition]
    all_goals simp_all [transition]
  · have hn' : ¬s.valueList.length ≤ 1 := Nat.not_le.mpr hn
    rw [decide_eq_false (Nat.not_le.mpr hw)] at hs
    refine ⟨fun h => ?_, fun h => ?_, fun h => ?_, fun ⟨h, hk⟩ => ?_, fun ⟨h, hk⟩ => ?_⟩
    case refine_4 =>
      have : ¬3 ≤ s.driftCount + 1 := by omega
      simp_all [transition]
    all_goals simp_all [transition]

end Sys2Proof.Machine
end

section
/-! A loss of lock: what the hold of a settle point leaves in the channels, whatever acts follow it. -/

namespace Sys2Proof.Machine

/-! ### Channels held on loss (R18, R73, R74) -/

/-- A channel held with cause LOSS, with no pulse and no burst. -/
abbrev Channel.LossHeld (ch : Channel) : Prop := ch.hold = some .loss ∧ ch.pulse = none ∧ ch.burst = none

/-- Every channel configured to hold on loss is held with cause LOSS. -/
abbrev State.LossHeld (s : State) : Prop := ∀ c : Fin 8, s.holdsOnLoss c = true → s.channels[c].LossHeld

/-- The two channels of an enabled pair have one holder, which is its own (R73). -/
theorem State.holder_holder (s : State) (c : Fin 8) : s.holder (s.holder c) = s.holder c := by
  unfold State.holder
  by_cases hp : s.isPaired c = true
  · have he : pairOf (evenOf (pairOf c)) = pairOf c := Fin.ext (by simp [pairOf, evenOf])
    have hp' : s.isPaired (evenOf (pairOf c)) = true := by simpa only [State.isPaired, he] using hp
    simp [hp, hp', he]
  · simp [hp]

/-- Which channels hold on loss is a matter of the configured values. -/
theorem State.holdsOnLoss_congr {s t : State} (h : t.settings = s.settings) (c : Fin 8) :
    t.holdsOnLoss c = s.holdsOnLoss c := by
  simp only [State.holdsOnLoss, State.holder, State.isPaired, h]
  rfl

/-- A generator's part of a step leaves the hold, the pulse and the burst. -/
abbrev Channel.SameHold (ch ch' : Channel) : Prop :=
  ch'.hold = ch.hold ∧ ch'.pulse = ch.pulse ∧ ch'.burst = ch.burst

namespace Channel

variable (ch : Channel)

theorem takePending_sameHold : ch.SameHold ch.takePending := by
  unfold takePending
  split <;> exact ⟨rfl, rfl, rfl⟩

theorem completeFrame_sameHold : ch.SameHold ch.completeFrame := by
  have h := takePending_sameHold { ch with frameCount := ch.frameCount + 1 }
  unfold completeFrame
  dsimp only
  split
  · exact h
  · exact h
  · exact ⟨rfl, rfl, rfl⟩

theorem stepForward_sameHold (now : Time) : ch.SameHold (ch.stepForward now).1 := by
  have h := ch.completeFrame_sameHold
  unfold stepForward
  dsimp only
  repeat' split
  · exact ⟨rfl, rfl, rfl⟩
  · exact h
  · exact h
  · exact ⟨rfl, rfl, rfl⟩
  · exact ⟨rfl, rfl, rfl⟩

theorem startGen_sameHold (now : Time) : ch.SameHold (ch.startGen now) := ch.takePending_sameHold

theorem stopGen_sameHold (param : Word16) : ch.SameHold (ch.stopGen param) := by
  unfold stopGen
  split <;> exact ⟨rfl, rfl, rfl⟩

theorem load_sameHold (now : Time) : ch.SameHold (ch.load now) := by
  unfold load
  split <;> exact ch.takePending_sameHold

end Channel

theorem Channel.LossHeld.of_sameHold {ch ch' : Channel} (h : ch.LossHeld) (hs : ch.SameHold ch') : ch'.LossHeld :=
  ⟨hs.1.trans h.1, hs.2.1.trans h.2.1, hs.2.2.trans h.2.2⟩

namespace State.LossHeld

/-- A held channel's holder is held. -/
theorem isHeld {s : State} (h : s.LossHeld) {c : Fin 8} (hc : s.holdsOnLoss c = true) : s.isHeld c = true := by
  have hh : s.holdsOnLoss (s.holder c) = true := by
    unfold State.holdsOnLoss at hc ⊢
    simpa only [State.holder_holder] using hc
  rw [State.isHeld, (h _ hh).1]
  rfl

/-- A channel is written: it stays held if it is one of those configured so. -/
theorem setChannel {s : State} (h : s.LossHeld) (c : Fin 8) (ch : Channel)
    (hc : s.holdsOnLoss c = true → ch.LossHeld) : (s.setChannel c ch).LossHeld := by
  intro d hd
  change (s.channels.set c ch)[d].LossHeld
  by_cases hcd : c = d
  · subst hcd
    simpa using hc hd
  · simpa [Fin.getElem_fin, Vector.getElem_set_ne _ _ (fun e => hcd (Fin.ext e))] using h d hd

theorem arrive {s : State} (h : s.LossHeld) (kind : TxKind) (d : Nat) (q : BitVec 4) (p : List Byte) (r : Bool) :
    (s.arrive kind d q p r).LossHeld := by
  obtain ⟨_, _, _, e⟩ := s.arrive_touches kind d q p r
  rw [e]
  exact h

theorem drop (e : Entry) (s : State) (h : s.LossHeld) : (s.drop e).LossHeld := by
  obtain ⟨_, _, _, e'⟩ := s.drop_touches e
  rw [e']
  exact h

theorem setLatch {s : State} (h : s.LossHeld) (c : Fin 8) (level : Bool) : (s.setLatch c level).LossHeld := by
  have cut : (s.cut c).LossHeld := h.setChannel c _ fun hc => ⟨(h c hc).1, rfl, rfl⟩
  exact cut.setChannel c _ fun hc => cut c hc

/-- An action on a held channel starts neither pulse nor burst (R75). -/
theorem takeAction (c : Fin 8) (a : Action) (p : Word16) (s : State) (h : s.LossHeld) :
    (s.takeAction c a p).LossHeld := by
  cases a
  case setHigh | setLow | toggle => exact h.setLatch c _
  case pulse | burst =>
    unfold State.takeAction
    dsimp only
    split <;> rename_i hh
    · exact h
    · exact h.setChannel c _ fun hc => absurd (h.isHeld hc) hh
  case startGen => exact h.setChannel c _ fun hc => (h c hc).of_sameHold (Channel.startGen_sameHold ..)
  case stopGen => exact h.setChannel c _ fun hc => (h c hc).of_sameHold (Channel.stopGen_sameHold ..)
  case load => exact h.setChannel c _ fun hc => (h c hc).of_sameHold (Channel.load_sameHold ..)

theorem afterFiring (e : Entry) (s : State) (h : s.LossHeld) : (s.afterFiring e).LossHeld := by
  obtain ⟨_, _, _, _, e'⟩ := s.afterFiring_touches e
  rw [e']
  exact h

theorem stepGenerators (change : Int) (s : State) (h : s.LossHeld) : (s.stepGenerators change).LossHeld := by
  unfold State.stepGenerators
  split
  · intro c hc
    simp only [State.restartGenerators, Fin.getElem_fin, Vector.getElem_ofFn]
    split <;> exact h c hc
  · split
    · intro c hc
      simp only [State.stepGeneratorsForward, Fin.getElem_fin, Vector.getElem_ofFn]
      exact (h c hc).of_sameHold (Channel.stepForward_sameHold ..)
    · exact h

/-- The hold of a loss of lock holds every channel configured to hold on loss (R73). -/
theorem holdOnLoss (s : State) : (s.holdOnLoss .loss).LossHeld := by
  intro c hc
  have hc' : s.holdsOnLoss c = true := hc
  simp only [State.holdOnLoss, State.enterHold, Fin.getElem_fin, Vector.getElem_ofFn, Fin.eta, hc', if_true]
  exact ⟨rfl, rfl, rfl⟩

/-- Every act of a settle point leaves the held channels held. -/
theorem settleAct (news : SettleNews) (a : SettleAct) (s : State) (h : s.LossHeld) :
    (s.settleAct news a).LossHeld := by
  cases a with
  | agePeers => exact h
  | stampDuty =>
    obtain ⟨_, _, _, e⟩ := s.stampDuty_touches
    rw [State.settleAct, e]
    exact h
  | listenCount =>
    obtain ⟨_, _, _, _, _, _, _, e⟩ := s.countListen_touches
    rw [State.settleAct, e]
    exact h
  | hold =>
    unfold State.settleAct
    dsimp only
    split
    · exact holdOnLoss s
    · exact h
  | generators => exact stepGenerators _ s h
  | schedule =>
    exact stepSchedule_keeps drop (fire_keeps drop (fun _ _ h => h) takeAction afterFiring) (fun _ _ h => h) _ s h

end State.LossHeld

/-- No act of a settle point silences the station. -/
theorem settleAct_not_silenced (news : SettleNews) (a : SettleAct) (s : State) (h : s.station ≠ .silenced) :
    (s.settleAct news a).station ≠ .silenced := by
  cases a with
  | agePeers => exact h
  | stampDuty =>
    obtain ⟨_, _, _, e⟩ := s.stampDuty_touches
    rw [State.settleAct, e]
    exact h
  | listenCount =>
    unfold State.settleAct State.countListen
    dsimp only
    repeat' split
    · obtain ⟨_, _, _, _, e⟩ := State.activate_touches { s with listenCount := s.listenCount + 1 }
      rw [e]
      exact nofun
    · exact h
    · exact h
  | hold =>
    unfold State.settleAct
    dsimp only
    split <;> exact h
  | generators =>
    obtain ⟨_, _, e⟩ := s.stepGenerators_touches news.change
    rw [State.settleAct, e]
    exact h
  | schedule =>
    obtain ⟨_, _, _, _, _, e⟩ := s.stepSchedule_touches news.change
    rw [State.settleAct, e]
    exact h

/-- Settles O11: the hold is one of the acts, and no act before or after it undoes it. -/
theorem lossOfLockHolds : Obligations.LossOfLockHolds := by
  intro order s t c hx hw he hs hin hout
  obtain ⟨-, hstat, -, hset⟩ := settle_fields order s
  obtain rfl := exec_settlePoint hx he
  refine ⟨hout, fun hc => ?_⟩
  have hloss : s.settleNews.lossOfLock = true := by
    have : syncInLock s.settleStatus.sync = false := by
      rw [← hstat]
      exact hout
    simp [State.settleNews, hin, this]
  obtain ⟨l₁, l₂, rfl, -, -⟩ := exists_split_of_isOrder hw .hold
  have held : ((l₁ ++ SettleAct.hold :: l₂).foldl (fun t a => t.settleAct s.settleNews a) s.settleUnit).LossHeld := by
    rw [List.foldl_append, List.foldl_cons]
    refine foldl_settleAct_keeps (P := State.LossHeld) (fun a _ u hu => .settleAct _ a u hu) ?_
    have hn := foldl_settleAct_keeps (P := fun u => u.station ≠ .silenced) (news := s.settleNews) (l := l₁)
      (fun a _ u hu => settleAct_not_silenced _ a u hu) (u := s.settleUnit) hs
    rw [State.settleAct, if_pos (by simp [hloss, hn])]
    exact .holdOnLoss _
  exact held c ((State.holdsOnLoss_congr hset c).trans hc)

end Sys2Proof.Machine
end

section
/-! The schedule and its counters at a settle point: what the drops and the firings of its step leave. -/

namespace Sys2Proof.Machine

/-! ### What the schedule's step reads and writes -/

/-- The schedule with the time and the lock by which its entries are judged, and its counters. -/
structure Ledger where
  entries : List Entry
  now : Time
  locked : Bool
  dropped : Word16
  fired : Word16
  skipped : Word16

/-- The schedule of a state, as its step sees it. -/
def State.ledger (s : State) : Ledger :=
  ⟨s.schedule, s.lineTime, s.inLock, s.counters.dropped, s.counters.fired, s.counters.repeatsSkipped⟩

theorem State.ledger_eq {s t : State} (h : s.ledger = t.ledger) :
    s.schedule = t.schedule ∧ s.lineTime = t.lineTime ∧ s.inLock = t.inLock ∧
      s.counters.dropped = t.counters.dropped ∧ s.counters.fired = t.counters.fired ∧
      s.counters.repeatsSkipped = t.counters.repeatsSkipped := by
  simpa only [State.ledger, Ledger.mk.injEq] using h

theorem countLost_ledger (k : TxKind) (n : Counters) :
    (n.countLost k).dropped = n.dropped ∧ (n.countLost k).fired = n.fired ∧
      (n.countLost k).repeatsSkipped = n.repeatsSkipped := by
  cases k <;> exact ⟨rfl, rfl, rfl⟩

/-- A frame that arrives leaves the schedule and its counters. -/
theorem State.arrive_ledger (kind : TxKind) (d : Nat) (q : BitVec 4) (p : List Byte) (r : Bool) (s : State) :
    (s.arrive kind d q p r).ledger = s.ledger := by
  have lost : ∀ k, (s.loseFrame k).ledger = s.ledger := fun k => by
    obtain ⟨h1, h2, h3⟩ := countLost_ledger k s.counters
    unfold State.ledger
    simp only [State.loseFrame_counters, h1, h2, h3]
    rfl
  obtain ⟨-, -, -, e⟩ | ⟨-, -, -, v, -, e⟩ | ⟨-, e⟩ := State.arrive_cases kind d q p r s <;> rw [e]
  · rfl
  · exact lost v.kind
  · exact lost kind

theorem State.notice_ledger (e : Entry) (o : NoticeOutcome) (s : State) : (s.notice e o).ledger = s.ledger := by
  unfold State.notice
  split
  · rfl
  · exact State.arrive_ledger ..

/-- A drop is counted (R39, R43). -/
theorem State.drop_ledger (e : Entry) (s : State) :
    (s.drop e).ledger = { s.ledger with dropped := bump s.ledger.dropped } := State.notice_ledger ..

/-- An action leaves the schedule and its counters. -/
theorem State.takeAction_ledger (c : Fin 8) (a : Action) (p : Word16) (s : State) :
    (s.takeAction c a p).ledger = s.ledger := by
  cases a
  case pulse | burst =>
    unfold State.takeAction
    dsimp only
    split <;> rfl
  all_goals rfl

/-- What follows a firing: the repeats skipped are counted, and the entry is held at its next due or leaves (R41,
R42). -/
theorem State.afterFiring_ledger (e : Entry) (s : State) :
    (s.afterFiring e).ledger =
      { s.ledger with
        entries := ((e.afterFiring s.ledger.now).1.map (insertEntry s.ledger.now · s.ledger.entries)).getD s.ledger.entries
        skipped := bumpBy (e.afterFiring s.ledger.now).2 s.ledger.skipped } := by
  unfold State.afterFiring
  change State.ledger (match (e.afterFiring s.lineTime).1 with | some next => _ | none => _) = _
  cases h : (e.afterFiring s.lineTime).1 with
  | some next =>
    have h' : (e.afterFiring s.ledger.now).1 = some next := h
    rw [h']
    rfl
  | none =>
    have h' : (e.afterFiring s.ledger.now).1 = none := h
    rw [h']
    exact State.notice_ledger ..

/-- A firing's part in the schedule and its counters rests on these, and on which channels are held. -/
theorem State.fire_ledger_congr {s t : State} (h : s.ledger = t.ledger) (hh : s.isHeld = t.isHeld) (e : Entry) :
    (s.fire e).ledger = (t.fire e).ledger := by
  have hlock : s.inLock = t.inLock := (State.ledger_eq h).2.2.1
  have hheld : s.firingHeld e.channel e.action = t.firingHeld e.channel e.action := by
    cases ha : e.action <;> simp only [State.firingHeld, hh]
  unfold State.fire
  rw [hlock]
  split
  · rw [State.drop_ledger, State.drop_ledger, h]
  · dsimp only
    rw [State.afterFiring_ledger, State.afterFiring_ledger, State.takeAction_ledger, State.takeAction_ledger, hheld]
    have counted : ({ s with counters := { s.counters with fired := bump s.counters.fired } } : State).ledger =
        ({ t with counters := { t.counters with fired := bump t.counters.fired } } : State).ledger := by
      obtain ⟨h1, h2, h3, h4, h5, h6⟩ := State.ledger_eq h
      change Ledger.mk s.schedule s.lineTime s.inLock _ (bump s.counters.fired) _ = Ledger.mk t.schedule _ _ _ _ _
      rw [h1, h2, h3, h4, h5, h6]
      rfl
    rw [counted]

/-! ### Which channels are held -/

theorem State.isHeld_congr {s t : State} (hs : t.settings = s.settings)
    (hc : ∀ c : Fin 8, t.channels[c].hold = s.channels[c].hold) : t.isHeld = s.isHeld := by
  funext c
  have hh : t.holder c = s.holder c := by
    simp only [State.holder, State.isPaired, hs]
    rfl
  simp only [State.isHeld, hh, hc]

theorem State.setChannel_isHeld {s : State} {c : Fin 8} {ch : Channel} (h : ch.hold = s.channels[c].hold) :
    (s.setChannel c ch).isHeld = s.isHeld := by
  refine State.isHeld_congr rfl fun d => ?_
  by_cases hcd : c = d
  · subst hcd
    simpa using h
  · simp [Fin.getElem_fin, Vector.getElem_set_ne _ _ (fun e => hcd (Fin.ext e))]

/-- No action holds or releases a channel (R56 to R63). -/
theorem State.takeAction_isHeld (c : Fin 8) (a : Action) (p : Word16) (s : State) :
    (s.takeAction c a p).isHeld = s.isHeld := by
  have latch : ∀ level, (s.setLatch c level).isHeld = s.isHeld := fun level => by
    have cut : (s.cut c).isHeld = s.isHeld :=
      State.setChannel_isHeld (ch := { s.channels[c] with pulse := none, burst := none }) rfl
    exact (State.setChannel_isHeld (ch := { (s.cut c).channels[c] with latch := level }) rfl).trans cut
  cases a
  case setHigh | setLow | toggle => exact latch _
  case pulse =>
    unfold State.takeAction
    dsimp only
    split
    · rfl
    · refine State.setChannel_isHeld ?_
      unfold Channel.startPulse
      split <;> rfl
  case burst =>
    unfold State.takeAction
    dsimp only
    split
    · rfl
    · refine State.setChannel_isHeld ?_
      unfold Channel.startBurst
      split <;> rfl
  case startGen => exact State.setChannel_isHeld (Channel.startGen_sameHold ..).1
  case stopGen => exact State.setChannel_isHeld (Channel.stopGen_sameHold ..).1
  case load => exact State.setChannel_isHeld (Channel.load_sameHold ..).1

theorem State.fire_isHeld (e : Entry) (s : State) : (s.fire e).isHeld = s.isHeld := by
  unfold State.fire
  split
  · obtain ⟨_, _, _, e'⟩ := s.drop_touches e
    rw [e']
    rfl
  · dsimp only
    obtain ⟨_, _, _, _, e'⟩ := State.afterFiring_touches { e with heldAtLast := s.firingHeld e.channel e.action }
      (State.takeAction e.channel e.action e.param
        { s with counters := { s.counters with fired := bump s.counters.fired } })
    rw [e']
    exact State.takeAction_isHeld ..

/-- The firing of every reached entry rests on the schedule, its counters, and which channels are held. -/
theorem State.fireReached_ledger_congr {s t : State} (h : s.ledger = t.ledger) (hh : s.isHeld = t.isHeld) :
    s.fireReached.ledger = t.fireReached.ledger := by
  have fold : ∀ (l : List Entry) (u v : State), u.ledger = v.ledger → u.isHeld = v.isHeld →
      (l.foldl (fun t e => t.fire e) u).ledger = (l.foldl (fun t e => t.fire e) v).ledger := by
    intro l
    induction l with
    | nil => exact fun u v h _ => h
    | cons e rest ih =>
      exact fun u v h hh => ih _ _ (State.fire_ledger_congr h hh e) (by
        change (u.fire e).isHeld = (v.fire e).isHeld
        rw [State.fire_isHeld, State.fire_isHeld, hh])
  obtain ⟨h1, h2, h3, h4, h5, h6⟩ := State.ledger_eq h
  unfold State.fireReached State.lineReached
  rw [h1, h2]
  refine fold _ _ _ ?_ hh
  change Ledger.mk _ s.lineTime s.inLock s.counters.dropped s.counters.fired s.counters.repeatsSkipped =
    Ledger.mk _ t.lineTime t.inLock _ _ _
  rw [h2, h3, h4, h5, h6]

/-! ### The reach-limit drop (R43) -/

theorem bumpBy_bumpBy (m n : Nat) (k : Word16) : bumpBy m (bumpBy n k) = bumpBy (n + m) k := by
  refine BitVec.eq_of_toNat_eq ?_
  simp only [bumpBy, BitVec.toNat_ofNat]
  omega

theorem bumpBy_zero (k : Word16) : bumpBy 0 k = k := by
  refine BitVec.eq_of_toNat_eq ?_
  have := k.isLt
  simp only [bumpBy, BitVec.toNat_ofNat]
  omega

theorem State.foldl_drop_ledger (l : List Entry) (s : State) :
    (l.foldl (fun t e => t.drop e) s).ledger = { s.ledger with dropped := bumpBy l.length s.ledger.dropped } := by
  induction l generalizing s with
  | nil => rw [List.length_nil, bumpBy_zero]; rfl
  | cons e rest ih =>
    rw [List.foldl_cons, ih, State.drop_ledger, List.length_cons, Nat.add_comm, ← bumpBy_bumpBy]
    rfl

/-- The entries within the bound of R27 stay in order, and the others are dropped and counted. -/
theorem State.dropBeyondReach_ledger (s : State) :
    s.dropBeyondReach.ledger =
      { s.ledger with
        entries := s.schedule.filter fun e => !s.beyondReach e
        dropped := bumpBy (s.schedule.countP s.beyondReach) s.ledger.dropped } := by
  unfold State.dropBeyondReach
  rw [State.foldl_drop_ledger, List.countP_eq_length_filter]
  rfl

end Sys2Proof.Machine
end

section
/-! The schedule at a settle point, in any order of the six acts: its own act alone changes it, and after a forward step
every entry left is within reach. -/

namespace Sys2Proof.Machine

/-! ### The acts and the schedule -/

/-- Every act but the schedule's own leaves the schedule and its counters. -/
theorem settleAct_ledger (news : SettleNews) {a : SettleAct} (ha : a ≠ .schedule) (s : State) :
    (s.settleAct news a).ledger = s.ledger := by
  cases a
  case schedule => exact absurd rfl ha
  case agePeers => rfl
  case stampDuty =>
    unfold State.settleAct State.stampDuty
    dsimp only
    split
    · exact State.arrive_ledger .stamp 31 0 [] false s
    · rfl
  case listenCount =>
    have joined := State.arrive_ledger .hello 31 0 [] false
      { s with listenCount := s.listenCount + 1, station := .active, roster := moveToEnd s.settings.station s.roster }
    unfold State.settleAct State.countListen State.activate
    dsimp only
    repeat' split
    · exact joined
    · exact joined
    · rfl
    · rfl
  case hold =>
    unfold State.settleAct
    dsimp only
    split <;> rfl
  case generators =>
    unfold State.settleAct State.stepGenerators
    dsimp only
    repeat' split
    all_goals rfl

/-- Where a loss of lock holds no channel, no act holds or releases one. -/
theorem settleAct_isHeld (news : SettleNews) (a : SettleAct) (s : State)
    (hn : news.lossOfLock = false ∨ s.station = .silenced) : (s.settleAct news a).isHeld = s.isHeld := by
  cases a with
  | agePeers => rfl
  | stampDuty =>
    obtain ⟨_, _, _, e⟩ := s.stampDuty_touches
    rw [State.settleAct, e]
    rfl
  | listenCount =>
    obtain ⟨_, _, _, _, _, _, _, e⟩ := s.countListen_touches
    rw [State.settleAct, e]
    rfl
  | hold =>
    unfold State.settleAct
    dsimp only
    rw [if_neg (by obtain h | h := hn <;> simp [h])]
  | generators =>
    unfold State.settleAct State.stepGenerators
    dsimp only
    repeat' split
    · refine State.isHeld_congr rfl fun c => ?_
      simp only [State.restartGenerators, Fin.getElem_fin, Vector.getElem_ofFn]
      split <;> rfl
    · refine State.isHeld_congr rfl fun c => ?_
      simp only [State.stepGeneratorsForward, Fin.getElem_fin, Vector.getElem_ofFn]
      exact (Channel.stepForward_sameHold ..).1
    · rfl
  | schedule =>
    exact stepSchedule_keeps (P := fun u => u.isHeld = s.isHeld)
      (fun e u hu => by
        obtain ⟨_, _, _, e'⟩ := u.drop_touches e
        rw [e']
        exact hu)
      (fun e u hu => (State.fire_isHeld e u).trans hu) (fun _ _ hu => hu) _ s rfl

/-- No act of a settle point takes a station out of SILENCED. -/
theorem settleAct_silenced (news : SettleNews) (a : SettleAct) (s : State) (h : s.station = .silenced) :
    (s.settleAct news a).station = .silenced := by
  cases a with
  | agePeers => exact h
  | stampDuty =>
    obtain ⟨_, _, _, e⟩ := s.stampDuty_touches
    rw [State.settleAct, e]
    exact h
  | listenCount =>
    rw [State.settleAct, State.countListen, if_neg (by simp [h])]
    exact h
  | hold =>
    unfold State.settleAct
    dsimp only
    split <;> exact h
  | generators =>
    obtain ⟨_, _, e⟩ := s.stepGenerators_touches news.change
    rw [State.settleAct, e]
    exact h
  | schedule =>
    obtain ⟨_, _, _, _, _, e⟩ := s.stepSchedule_touches news.change
    rw [State.settleAct, e]
    exact h

/-- A settle point is the acts before the schedule's, which leave the schedule, then the schedule's own, then the rest. -/
theorem settle_split {order : List SettleAct} (hw : SettleAct.isOrder order = true) (s : State) :
    ∃ l₁ l₂ u, order.Perm (.schedule :: (l₁ ++ l₂)) ∧ .schedule ∉ l₁ ∧ .schedule ∉ l₂ ∧
      u = l₁.foldl (fun t a => t.settleAct s.settleNews a) s.settleUnit ∧ u.ledger = s.settleUnit.ledger ∧
      s.settle order =
        (l₂.foldl (fun t a => t.settleAct s.settleNews a) (u.stepSchedule s.settleNews.change)).followPairs := by
  obtain ⟨l₁, l₂, rfl, h1, h2⟩ := exists_split_of_isOrder hw .schedule
  refine ⟨l₁, l₂, _, List.perm_middle, h1, h2, rfl, ?_, ?_⟩
  · exact foldl_settleAct_keeps (P := fun u => u.ledger = s.settleUnit.ledger) (u := s.settleUnit)
      (fun a ha u hu => (settleAct_ledger _ (ne_of_mem_of_not_mem ha h1) u).trans hu) rfl
  · rw [State.settle, List.foldl_append, List.foldl_cons]
    rfl

/-- The schedule after a settle point is what its own act leaves, from a state that holds the schedule, its counters and
the holds as they stood at the new line time. -/
theorem settle_ledger {order : List SettleAct} (hw : SettleAct.isOrder order = true) (s : State) :
    ∃ u : State, u.ledger = s.settleUnit.ledger ∧
      (s.settleNews.lossOfLock = false ∨ s.station = .silenced → u.isHeld = s.settleUnit.isHeld) ∧
      (s.settle order).ledger = (u.stepSchedule s.settleNews.change).ledger := by
  obtain ⟨l₁, l₂, u, -, -, h2, hu, hl, e⟩ := settle_split hw s
  refine ⟨u, hl, fun hn => ?_, ?_⟩
  · rw [hu]
    refine (foldl_settleAct_keeps (l := l₁) (u := s.settleUnit)
      (P := fun u => (s.settleNews.lossOfLock = false ∨ u.station = .silenced) ∧ u.isHeld = s.settleUnit.isHeld)
      (fun a _ u ⟨hn, hu⟩ => ⟨hn.imp_right (settleAct_silenced _ a u), (settleAct_isHeld _ a u hn).trans hu⟩)
      ⟨hn, rfl⟩).2
  · rw [e]
    exact foldl_settleAct_keeps (P := fun v => v.ledger = (u.stepSchedule s.settleNews.change).ledger)
      (fun a ha v hv => (settleAct_ledger _ (ne_of_mem_of_not_mem ha h2) v).trans hv) rfl

/-! ### A forward step (R38, R41, R43) -/

/-- The repeat of a firing is held at the first of its dues found ahead, less than an interval ahead (R41). -/
theorem Entry.afterFiring_ahead {now : Time} {e next : Entry} (h : (e.afterFiring now).1 = some next)
    (hr : ∀ r ∈ e.repetition, r.inBounds) (ht : ticksSince now e.due < 2147483648) :
    1 ≤ forward now next.due ∧ forward now next.due ≤ 50000000 := by
  unfold Entry.afterFiring at h
  cases hrep : e.repetition with
  | none => simp [hrep] at h
  | some r =>
    obtain ⟨hi, hi', -⟩ := hr r hrep
    have hdue : next.due = later e.due ((ticksSince now e.due / r.interval + 1) * r.interval) := by
      rw [hrep] at h
      dsimp only at h
      split at h
      · cases h
        rfl
      · split at h
        · cases h
        · cases h
          rfl
    have hdiv := Nat.div_add_mod (ticksSince now e.due) r.interval
    have hmod := Nat.mod_lt (ticksSince now e.due) (show 0 < r.interval by omega)
    rw [Nat.add_mul, Nat.one_mul, Nat.mul_comm] at hdue
    generalize r.interval * (ticksSince now e.due / r.interval) = m at hdiv hdue
    have hfwd : (later e.due (m + r.interval)).toNat = (e.due.toNat + (m + r.interval)) % 4294967296 := by
      simp [later, BitVec.toNat_add]
    rw [hdue, forward_eq, hfwd]
    have hsince := ht
    rw [ticksSince, forward_eq] at hsince hdiv hmod
    have := now.isLt
    have := e.due.isLt
    unfold horizon at hi'
    omega

/-- How a firing leaves the schedule: as it was, or with the repeat inserted (R41, R42). -/
theorem State.fire_schedule (e : Entry) (s : State) :
    (s.fire e).lineTime = s.lineTime ∧
    ((s.fire e).schedule = s.schedule ∨
      ∃ next held, (Entry.afterFiring s.lineTime { e with heldAtLast := held }).1 = some next ∧
        (s.fire e).schedule = insertEntry s.lineTime next s.schedule) := by
  refine ⟨?_, ?_⟩
  · obtain ⟨_, _, _, _, _, e'⟩ := s.fire_touches e
    rw [e']
    rfl
  · unfold State.fire
    split
    · exact .inl (congrArg Ledger.entries (s.drop_ledger e))
    · dsimp only
      have h := State.afterFiring_ledger { e with heldAtLast := s.firingHeld e.channel e.action }
        (State.takeAction e.channel e.action e.param
          { s with counters := { s.counters with fired := bump s.counters.fired } })
      rw [State.takeAction_ledger] at h
      have h' := congrArg Ledger.entries h
      cases hn : (Entry.afterFiring s.lineTime { e with heldAtLast := s.firingHeld e.channel e.action }).1 with
      | none => exact .inl (h'.trans (by change Option.getD (Option.map _ (Entry.afterFiring s.lineTime _).1) _ = _; rw [hn]; rfl))
      | some next =>
        exact .inr ⟨next, _, hn, h'.trans (by change Option.getD (Option.map _ (Entry.afterFiring s.lineTime _).1) _ = _; rw [hn]; rfl)⟩

end Sys2Proof.Machine
end

section
/-! The schedule at a forward and at a backward settle point (R38, R43). -/

namespace Sys2Proof.Machine

/-! ### The size of the change (R10, R12) -/

theorem State.valueList_range (s : State) : ∀ x ∈ s.valueList, (-2147483648 : Int) ≤ x ∧ x ≤ 2147483647 := by
  intro x hx
  obtain rfl | hx := List.mem_cons.mp hx
  · decide
  · obtain ⟨p, -, rfl⟩ := List.mem_map.mp hx
    have h1 := BitVec.le_toInt p.sample
    have h2 := BitVec.toInt_lt (x := p.sample)
    exact ⟨by simpa using h1, by simp at h2; omega⟩

theorem State.settleDelta_le (s : State) : s.settleDelta ≤ 2147483647 :=
  (midpoint_mem_range (trim_ne_nil (List.cons_ne_nil _ _)) fun x hx => s.valueList_range x (mem_of_mem_trim hx)).2

/-- A step forward is shorter than half the circle of moments. -/
theorem State.change_le (s : State) : s.settleNews.change ≤ 2147483647 := by
  have hd := s.settleDelta_le
  have hc : s.settleNews.change = correctionChange s.sync s.settings.stepLimit s.valueList.length s.settleDelta := rfl
  rw [hc]
  unfold correctionChange clampTo
  split
  · decide
  · split
    · omega
    · exact hd

/-! ### A forward step -/

/-- Where a forward step leaves a due: not long ago if it is reached, and no further ahead if it is not. -/
theorem forward_step {now due : Time} {change : Int} (h1 : 0 < change) (h2 : change ≤ 2147483647)
    (hp : 0 ≤ signedDiff now due) (hq : signedDiff now due ≤ (reachLimit : Int)) :
    if isReached (now + BitVec.ofInt 32 change) due = true
    then ticksSince (now + BitVec.ofInt 32 change) due < 2147483648
    else forward (now + BitVec.ofInt 32 change) due ≤ reachLimit := by
  obtain ⟨n, rfl⟩ := Int.eq_ofNat_of_zero_le h1.le
  have hn : (now + BitVec.ofInt 32 n).toNat = (now.toNat + n) % 4294967296 := by
    have : BitVec.ofInt 32 (n : Int) = BitVec.ofNat 32 n := BitVec.ofInt_natCast ..
    rw [this, BitVec.toNat_add, BitVec.toNat_ofNat]
    omega
  rw [signedDiff_eq, forward_eq] at hp hq
  unfold reachLimit at hq
  have := now.isLt
  have := due.isLt
  split <;> rename_i hr
  · rw [isReached_iff, forward_eq, hn] at hr
    rw [ticksSince, forward_eq, hn]
    omega
  · rw [isReached_iff, forward_eq, hn] at hr
    rw [forward_eq, hn]
    unfold reachLimit
    omega

/-- Every entry stands where a forward step may leave it. -/
abbrev State.SteppedForward (s : State) : Prop :=
  (∀ e ∈ s.schedule, ∀ r ∈ e.repetition, r.inBounds) ∧
  ∀ e ∈ s.schedule,
    if s.lineReached e.due = true then ticksSince s.lineTime e.due < 2147483648 else s.aheadBy e.due ≤ reachLimit

theorem State.mem_fire_schedule {e x : Entry} {s : State} (h : x ∈ s.schedule) : x ∈ (s.fire e).schedule := by
  obtain ⟨-, hs | ⟨next, _, -, hs⟩⟩ := s.fire_schedule e <;> rw [hs]
  · exact h
  · exact (mem_insertEntry ..).mpr (.inr h)

/-- An entry that is not reached stays while the reached ones fire. -/
theorem State.mem_fireReached {e : Entry} {s : State} (h : e ∈ s.schedule) (hr : s.lineReached e.due = false) :
    e ∈ s.fireReached.schedule :=
  foldl_fire_keeps (P := fun u => e ∈ u.schedule) (fun _ _ _ => State.mem_fire_schedule)
    (List.mem_filter.mpr ⟨h, by simp [hr]⟩)

/-- After the firings of a forward step every entry is within the reach limit, so none is dropped for it (R41, R43). -/
theorem State.SteppedForward.inReach {s : State} (h : s.SteppedForward) :
    ∀ e ∈ s.fireReached.schedule, s.fireReached.beyondReach e = false := by
  obtain ⟨hb, hp⟩ := h
  have hinv : s.fireReached.lineTime = s.lineTime ∧
      ∀ e ∈ s.fireReached.schedule, 1 ≤ s.aheadBy e.due ∧ s.aheadBy e.due ≤ 100000000 := by
    refine foldl_fire_keeps
      (P := fun u => u.lineTime = s.lineTime ∧ ∀ e ∈ u.schedule, 1 ≤ s.aheadBy e.due ∧ s.aheadBy e.due ≤ 100000000)
      (fun e he u ⟨hn, hu⟩ => ?_) ⟨rfl, fun e he => ?_⟩
    · obtain ⟨he, hr⟩ := List.mem_filter.mp he
      have ht := hp e he
      rw [if_pos hr] at ht
      obtain ⟨hl, hs | ⟨next, held, ha, hs⟩⟩ := u.fire_schedule e
      · exact ⟨hl.trans hn, hs ▸ hu⟩
      · refine ⟨hl.trans hn, fun x hx => ?_⟩
        rw [hs] at hx
        obtain rfl | hx := (mem_insertEntry ..).mp hx
        · rw [hn] at ha
          obtain ⟨h1, h2⟩ := Entry.afterFiring_ahead ha (hb e he) ht
          exact ⟨h1, h2.trans (by decide)⟩
        · exact hu x hx
    · obtain ⟨he, hr⟩ := List.mem_filter.mp he
      have hr : s.lineReached e.due = false := by simpa using hr
      have ht := hp e he
      rw [if_neg (by simp [hr])] at ht
      exact ⟨((isReached_eq_false_iff ..).mp hr).1, ht⟩
  intro e he
  rw [State.beyondReach_eq_false_iff, State.aheadBy, hinv.1]
  exact hinv.2 e he

/-- A reach-limit drop with every entry within reach leaves the schedule. -/
theorem State.dropBeyondReach_of_inReach {s : State} (h : ∀ e ∈ s.schedule, s.beyondReach e = false) :
    s.dropBeyondReach.ledger = s.ledger := by
  rw [State.dropBeyondReach_ledger, List.filter_eq_self.mpr fun e he => by simp [h e he],
    List.countP_eq_zero.mpr fun e he => by simp [h e he], bumpBy_zero]
  rfl

/-- The line time unit's own work at a forward settle point leaves every entry where a forward step may leave it. -/
theorem State.ScheduleLaw.steppedForward {s : State} (h : s.ScheduleLaw) (hc : 0 < s.settleNews.change) :
    s.settleUnit.SteppedForward := by
  obtain ⟨-, -, -, hp, hr⟩ := h
  have hnow : s.settleUnit.lineTime = s.lineTime + BitVec.ofInt 32 s.settleNews.change := (add_assoc ..).symm
  refine ⟨hr, fun e he => ?_⟩
  rw [State.lineReached, State.aheadBy, hnow]
  exact forward_step hc s.change_le (hp e he).1 (hp e he).2

/-- At a forward settle point the schedule does what an ENTRY_DUE does at the new line time (R38). -/
theorem settle_schedule_forward {order : List SettleAct} (hw : SettleAct.isOrder order = true) {s : State}
    (hc : 0 < s.settleNews.change) (hl : s.ScheduleLaw) :
    (∀ e ∈ s.schedule, s.settleUnit.lineReached e.due = false → e ∈ (s.settle order).schedule) ∧
    (s.settleNews.lossOfLock = false ∨ s.station = .silenced →
      (s.settle order).ledger = s.settleUnit.fireReached.ledger) := by
  obtain ⟨u, hu, hh, ht⟩ := settle_ledger hw s
  obtain ⟨hsch, hnow, -⟩ := State.ledger_eq hu
  have hfwd : u.SteppedForward := by
    have := hl.steppedForward hc
    unfold State.SteppedForward State.lineReached State.aheadBy at this ⊢
    rwa [hsch, hnow]
  rw [State.stepSchedule, if_pos hc, State.dropBeyondReach_of_inReach hfwd.inReach] at ht
  refine ⟨fun e he hr => ?_, fun hn => ht.trans (State.fireReached_ledger_congr hu (hh hn))⟩
  rw [(State.ledger_eq ht).1]
  refine State.mem_fireReached (hsch ▸ he) ?_
  rwa [State.lineReached, hnow]

/-! ### A backward step -/

/-- At a backward settle point the entries the bound of R27 does not hold are dropped and counted, and the others stay in
order (R43). -/
theorem settle_schedule_backward {order : List SettleAct} (hw : SettleAct.isOrder order = true) {s : State}
    (hc : s.settleNews.change < 0) :
    (s.settle order).ledger =
      { s.settleUnit.ledger with
        entries := s.schedule.filter fun e => !s.settleUnit.beyondReach e
        dropped := bumpBy (s.schedule.countP s.settleUnit.beyondReach) s.counters.dropped } := by
  obtain ⟨u, hu, -, ht⟩ := settle_ledger hw s
  obtain ⟨hsch, hnow, -⟩ := State.ledger_eq hu
  have hb : u.beyondReach = s.settleUnit.beyondReach := by
    funext e
    rw [State.beyondReach, State.lineReached, State.aheadBy, hnow]
    rfl
  rw [ht, State.stepSchedule, if_neg (by omega), if_pos hc, State.dropBeyondReach_ledger, hu, hsch, hb]
  rfl

/-- Where line time does not change, the schedule stays. -/
theorem settle_schedule_still {order : List SettleAct} (hw : SettleAct.isOrder order = true) {s : State}
    (hc : s.settleNews.change = 0) : (s.settle order).schedule = s.schedule := by
  obtain ⟨u, hu, -, ht⟩ := settle_ledger hw s
  rw [(State.ledger_eq ht).1, State.stepSchedule, if_neg (by omega), if_neg (by omega), (State.ledger_eq hu).1]
  rfl

end Sys2Proof.Machine
end

section
/-! The NOTICEs of the entries a backward settle point drops: queued in ACTIVE, lost in LISTENING and SILENCED. -/

namespace Sys2Proof.Machine

/-! ### The acts and the transmit queue -/

/-- What decides whether a NOTICE is queued or lost, and what it says. -/
abbrev State.mail (s : State) : StationState × Option Nat × List TxFrame × Word16 × Time :=
  (s.station, s.queueShutFrom, s.queue, s.counters.lostNotices, s.lineTime)

/-- An act that makes no frame leaves the queue. -/
theorem settleAct_mail (news : SettleNews) {a : SettleAct} (h1 : a ≠ .schedule) (h2 : a ≠ .stampDuty)
    (h3 : a ≠ .listenCount) (s : State) :
    (s.settleAct news a).mail = s.mail ∧ (s.settleAct news a).listenCount = s.listenCount ∧
      (s.settleAct news a).settings = s.settings := by
  cases a
  case schedule => exact absurd rfl h1
  case stampDuty => exact absurd rfl h2
  case listenCount => exact absurd rfl h3
  case agePeers => exact ⟨rfl, rfl, rfl⟩
  case hold =>
    unfold State.settleAct
    dsimp only
    split <;> exact ⟨rfl, rfl, rfl⟩
  case generators =>
    unfold State.settleAct State.stepGenerators
    dsimp only
    repeat' split
    all_goals exact ⟨rfl, rfl, rfl⟩

/-! ### In ACTIVE -/

/-- The queue of an ACTIVE station takes `k` more NOTICEs: there is room for them, or for all but one of them and a STAMP
to displace (R151). -/
structure State.HasRoom (k : Nat) (s : State) : Prop where
  active : s.station = .active
  unshut : s.queueShutFrom = none
  room : s.queue.length + k ≤ 16 ∨
    s.queue.length ≤ 16 ∧ s.queue.length + k ≤ 17 ∧ ∃ g ∈ s.queue, g.onLine = false ∧ g.kind = .stamp

/-- The NOTICEs queued and lost, from one state to another at the same line time: `k` more are queued, none is lost, and
none that was queued leaves. -/
structure State.Queues (k : Nat) (s t : State) : Prop where
  count : t.queue.countP (·.kind == .notice) = s.queue.countP (·.kind == .notice) + k
  lost : t.counters.lostNotices = s.counters.lostNotices
  time : t.lineTime = s.lineTime
  stays : ∀ g ∈ s.queue, g.kind = .notice → g ∈ t.queue

theorem State.Queues.refl (s : State) : s.Queues 0 s := ⟨rfl, rfl, rfl, fun _ h _ => h⟩

theorem State.Queues.trans {j k : Nat} {s t u : State} (h : s.Queues j t) (h' : t.Queues k u) : s.Queues (j + k) u where
  count := by rw [h'.count, h.count, Nat.add_assoc]
  lost := h'.lost.trans h.lost
  time := h'.time.trans h.time
  stays g hg hk := h'.stays g (h.stays g hg hk) hk

/-- Each act of a settle point but the schedule's leaves the NOTICEs, and the room for more: a STAMP takes a place that a
NOTICE may take from it. -/
theorem State.HasRoom.settleAct {k : Nat} {s : State} (h : s.HasRoom k) (news : SettleNews) {a : SettleAct}
    (ha : a ≠ .schedule) : (s.settleAct news a).HasRoom k ∧ s.Queues 0 (s.settleAct news a) := by
  obtain ⟨h1, h2, h3⟩ := h
  by_cases hl : a = .listenCount
  · have e : s.settleAct news a = s := by
      rw [hl, State.settleAct, State.countListen, if_neg (by simp [h1])]
    rw [e]
    exact ⟨⟨h1, h2, h3⟩, .refl s⟩
  by_cases hd : a = .stampDuty
  · subst hd
    rw [State.settleAct, State.stampDuty]
    split
    case isFalse => exact ⟨⟨h1, h2, h3⟩, ⟨rfl, rfl, rfl, fun _ hg _ => hg⟩⟩
    case isTrue hn =>
      have hno : ¬∃ g ∈ s.queue, g.onLine = false ∧ g.kind = .stamp := by
        rintro ⟨g, hg, -, hk⟩
        have := List.any_eq_false.mp hn.2.2 g hg
        simp [hk] at this
      have hroom := h3.resolve_right fun h => hno h.2.2
      obtain ⟨-, -, hlt, e⟩ | ⟨-, -, hge, v, hv, -⟩ | ⟨-, e⟩ := State.arrive_cases .stamp 31 0 [] false s
      · rw [e]
        refine ⟨⟨h1, h2, .inr ⟨?_, ?_, ?_⟩⟩, ⟨?_, rfl, rfl, fun g hg _ => ?_⟩⟩
        · simpa using hlt
        · simp only [State.placeFrame_queue, length_insertFrame]
          omega
        · exact ⟨_, (mem_insertFrame ..).mpr (.inl rfl), rfl, rfl⟩
        · simp only [State.placeFrame_queue, (insertFrame_perm ..).countP_eq, List.countP_cons]
          rfl
        · exact (mem_insertFrame ..).mpr (.inr hg)
      · obtain ⟨-, -, hc⟩ := mem_of_victim hv
        have : v.kind.cls ≤ 4 := by cases v.kind <;> decide
        exact absurd hc (Nat.not_lt.mpr this)
      · rw [e]
        exact ⟨⟨h1, h2, h3⟩, ⟨rfl, rfl, rfl, fun _ hg _ => hg⟩⟩
  · have e := (settleAct_mail news ha hd hl s).1
    simp only [State.mail, Prod.mk.injEq] at e
    obtain ⟨e1, e2, e3, e4, e5⟩ := e
    exact ⟨⟨e1.trans h1, e2.trans h2, e3.symm ▸ h3⟩, ⟨by rw [e3]; rfl, e4, e5, fun g hg _ => e3.symm ▸ hg⟩⟩

/-- An act after the NOTICEs are queued leaves them. -/
theorem foldl_settleAct_queues {news : SettleNews} {k : Nat} {l : List SettleAct} (hl : .schedule ∉ l) {s : State}
    (h : s.HasRoom k) :
    (l.foldl (fun t a => t.settleAct news a) s).HasRoom k ∧ s.Queues 0 (l.foldl (fun t a => t.settleAct news a) s) :=
  foldl_settleAct_keeps (P := fun u => u.HasRoom k ∧ s.Queues 0 u)
    (fun a ha u ⟨hr, hq⟩ => by
      obtain ⟨hr', hq'⟩ := hr.settleAct news (ne_of_mem_of_not_mem ha hl)
      exact ⟨hr', hq.trans hq'⟩)
    ⟨h, .refl s⟩

/-- A NOTICE is queued where there is room for it, in the place of another frame if the queue is full (R150, R151). -/
theorem State.HasRoom.arrive {k : Nat} {s : State} (h : s.HasRoom (k + 1)) (d : Nat) (p : List Byte) :
    (s.arrive .notice d 0 p false).HasRoom k ∧ s.Queues 1 (s.arrive .notice d 0 p false) ∧
      ∃ g ∈ (s.arrive .notice d 0 p false).queue,
        g.kind = .notice ∧ g.destination = d ∧ g.sequence = 0 ∧ g.payload = p := by
  obtain ⟨h1, h2, h3⟩ := h
  have late : s.arrivesLate = false := by simp [State.arrivesLate, h2]
  obtain ⟨-, -, hlt, e⟩ | ⟨-, -, hge, v, hv, e⟩ | ⟨hno, -⟩ := State.arrive_cases .notice d 0 p false s
  · rw [e]
    refine ⟨⟨h1, h2, ?_⟩, ⟨?_, rfl, rfl, fun g hg _ => ?_⟩, _, (mem_insertFrame ..).mpr (.inl rfl), rfl, rfl, rfl, rfl⟩
    · simp only [State.placeFrame_queue, length_insertFrame]
      refine h3.imp (by omega) fun ⟨ha, hb, g, hg, hs⟩ => ⟨by omega, by omega, g, ?_, hs⟩
      exact (mem_insertFrame ..).mpr (.inr hg)
    · simp only [State.placeFrame_queue, (insertFrame_perm ..).countP_eq, List.countP_cons]
      rfl
    · exact (mem_insertFrame ..).mpr (.inr hg)
  · obtain ⟨hm, -, hc⟩ := mem_of_victim hv
    have hk : v.kind ≠ .notice := fun hk => by simp [hk] at hc
    have hlost : (s.counters.countLost v.kind).lostNotices = s.counters.lostNotices := by
      cases hv : v.kind <;> simp_all [Counters.countLost]
    have hlen := List.length_erase_of_mem hm
    have := List.length_pos_of_mem hm
    rw [e]
    refine ⟨⟨h1, h2, .inl ?_⟩, ⟨?_, hlost, rfl, fun g hg hn => ?_⟩, _, (mem_insertFrame ..).mpr (.inl rfl), rfl, rfl,
      rfl, rfl⟩
    · simp only [State.placeFrame_queue, length_insertFrame]
      omega
    · simp only [State.placeFrame_queue, (insertFrame_perm ..).countP_eq, List.countP_cons, List.countP_erase]
      simp [hk, TxFrame.arriving]
    · refine (mem_insertFrame ..).mpr (.inr ((List.mem_erase_of_ne ?_).mpr hg))
      rintro rfl
      exact hk hn
  · obtain hn | hn | ⟨hge, hn | hn⟩ := hno
    · exact absurd h1 hn
    · exact absurd (late.symm.trans hn) nofun
    · exact absurd hn (by decide)
    · obtain ⟨g, hg, ho, hk⟩ := (h3.resolve_left (by omega)).2.2
      exact absurd (victim_eq_none_iff.mp hn g hg ho) (by rw [hk]; decide)

/-- Every entry dropped gives its notify station a NOTICE, where there is room for all of them (R43, R49). -/
theorem State.HasRoom.foldl_drop {l : List Entry} {k : Nat} {s : State} (h : s.HasRoom (l.countP (·.notify.isSome) + k)) :
    (l.foldl (fun t e => t.drop e) s).HasRoom k ∧
      s.Queues (l.countP (·.notify.isSome)) (l.foldl (fun t e => t.drop e) s) ∧
      ∀ e ∈ l, ∀ n, e.notify = some n → ∃ g ∈ (l.foldl (fun t e => t.drop e) s).queue,
        g.kind = .notice ∧ g.destination = n ∧ g.sequence = 0 ∧ g.payload = noticePayload e .dropped s.lineTime := by
  induction l generalizing s with
  | nil => exact ⟨by simpa using h, .refl s, nofun⟩
  | cons e rest ih =>
    rw [List.foldl_cons]
    have hstep : (s.drop e).HasRoom (rest.countP (·.notify.isSome) + k) ∧
        s.Queues (if e.notify.isSome then 1 else 0) (s.drop e) ∧
        ∀ n, e.notify = some n → ∃ g ∈ (s.drop e).queue,
          g.kind = .notice ∧ g.destination = n ∧ g.sequence = 0 ∧ g.payload = noticePayload e .dropped s.lineTime := by
      rw [List.countP_cons] at h
      unfold State.drop State.notice
      cases hn : e.notify with
      | none =>
        rw [hn] at h
        exact ⟨⟨h.active, h.unshut, h.room⟩, ⟨rfl, rfl, rfl, fun _ hg _ => hg⟩, nofun⟩
      | some n =>
        rw [hn, Option.isSome_some, if_pos rfl, Nat.add_right_comm] at h
        have hc : ({ s with counters := { s.counters with dropped := bump s.counters.dropped } } : State).HasRoom
            (rest.countP (·.notify.isSome) + k + 1) :=
          ⟨h.active, h.unshut, h.room⟩
        obtain ⟨hr, hq, hg⟩ := hc.arrive n (noticePayload e .dropped s.lineTime)
        exact ⟨hr, ⟨hq.count, hq.lost, hq.time, hq.stays⟩, fun m hm => by cases hm; exact hg⟩
    obtain ⟨hr, hq, hg⟩ := hstep
    obtain ⟨hr', hq', hg'⟩ := ih hr
    refine ⟨hr', ?_, fun x hx n hn => ?_⟩
    · rw [List.countP_cons, Nat.add_comm]
      exact hq.trans hq'
    · obtain rfl | hx := List.mem_cons.mp hx
      · obtain ⟨g, hm, hk, hrest⟩ := hg n hn
        exact ⟨g, hq'.stays g hm hk, hk, hrest⟩
      · rw [← hq.time]
        exact hg' x hx n hn

/-! ### In LISTENING and SILENCED -/

/-- The station does not enter ACTIVE in the acts of a list: it is SILENCED, or it is LISTENING and the acts do not count
it to its listen time (R186). -/
def State.StaysOut (l : List SettleAct) (s : State) : Prop :=
  s.station = .silenced ∨ s.station = .listening ∧ s.listenCount + l.count .listenCount < s.settings.listenTime

theorem State.StaysOut.not_active {l : List SettleAct} {s : State} (h : s.StaysOut l) : s.station ≠ .active := by
  obtain h | ⟨h, -⟩ := h <;> simp [h]

/-- Outside ACTIVE a NOTICE is lost and counted (R150, R157). -/
theorem State.drop_lostNotices {e : Entry} {s : State} (hs : s.station ≠ .active) :
    (s.drop e).counters.lostNotices = bumpBy (if e.notify.isSome then 1 else 0) s.counters.lostNotices := by
  unfold State.drop State.notice
  cases hn : e.notify with
  | none => exact (bumpBy_zero _).symm
  | some n =>
    dsimp only
    obtain ⟨ha, -⟩ | ⟨ha, -⟩ | ⟨-, e⟩ := State.arrive_cases .notice n 0 (noticePayload e .dropped s.lineTime) false
      { s with counters := { s.counters with dropped := bump s.counters.dropped } }
    · exact absurd ha hs
    · exact absurd ha hs
    · exact congrArg (fun u : State => u.counters.lostNotices) e

theorem State.foldl_drop_lostNotices (l : List Entry) {s : State} (hs : s.station ≠ .active) :
    (l.foldl (fun t e => t.drop e) s).counters.lostNotices =
      bumpBy (l.countP (·.notify.isSome)) s.counters.lostNotices := by
  induction l generalizing s with
  | nil => exact (bumpBy_zero _).symm
  | cons e rest ih =>
    have hd : (s.drop e).station = s.station := by
      obtain ⟨_, _, _, e'⟩ := s.drop_touches e
      rw [e']
    rw [List.foldl_cons, ih (hd ▸ hs), State.drop_lostNotices hs, bumpBy_bumpBy, List.countP_cons, Nat.add_comm]

/-- Each act but the schedule's leaves the lost NOTICEs of a station that does not enter ACTIVE. -/
theorem State.StaysOut.settleAct {a : SettleAct} {l : List SettleAct} {s : State} (h : s.StaysOut (a :: l))
    (news : SettleNews) (ha : a ≠ .schedule) :
    (s.settleAct news a).StaysOut l ∧ (s.settleAct news a).counters.lostNotices = s.counters.lostNotices := by
  by_cases hl : a = .listenCount
  · subst hl
    rw [State.settleAct, State.countListen]
    obtain h | ⟨h, hc⟩ := h
    · rw [if_neg (by simp [h])]
      exact ⟨.inl h, rfl⟩
    · rw [List.count_cons_self] at hc
      have hlt : s.listenCount + 1 + l.count .listenCount < s.settings.listenTime := by omega
      rw [if_pos h]
      dsimp only
      rw [if_neg (by omega)]
      exact ⟨.inr ⟨h, hlt⟩, rfl⟩
  · have hout : s.StaysOut l := by rwa [State.StaysOut, List.count_cons_of_ne hl] at h
    by_cases hd : a = .stampDuty
    · subst hd
      rw [State.settleAct, State.stampDuty, if_neg fun hn => hout.not_active hn.1]
      exact ⟨hout, rfl⟩
    · obtain ⟨e, hc, hg⟩ := settleAct_mail news ha hd hl s
      simp only [State.mail, Prod.mk.injEq] at e
      obtain ⟨e1, -, -, e4, -⟩ := e
      exact ⟨by rwa [State.StaysOut, e1, hc, hg], e4⟩

theorem foldl_settleAct_staysOut {news : SettleNews} {l l' : List SettleAct} (hl : .schedule ∉ l) {s : State}
    (h : s.StaysOut (l ++ l')) :
    (l.foldl (fun t a => t.settleAct news a) s).StaysOut l' ∧
      (l.foldl (fun t a => t.settleAct news a) s).counters.lostNotices = s.counters.lostNotices := by
  induction l generalizing s with
  | nil => exact ⟨h, rfl⟩
  | cons a rest ih =>
    obtain ⟨h1, e1⟩ := h.settleAct news (ne_of_mem_of_not_mem (List.mem_cons_self ..) hl)
    obtain ⟨h2, e2⟩ := ih (fun hm => hl (List.mem_cons_of_mem _ hm)) h1
    exact ⟨h2, e2.trans e1⟩

/-! ### At a settle point -/

/-- How many of the entries outside the bound of R27 have a notify station (R43, R49). -/
abbrev State.told (s : State) : Nat := s.schedule.countP fun e => e.notify.isSome && s.beyondReach e

theorem State.told_eq (s : State) : s.told = (s.schedule.filter s.beyondReach).countP (·.notify.isSome) :=
  (List.countP_filter ..).symm

theorem State.beyondReach_congr {s t : State} (h : s.ledger = t.ledger) : s.beyondReach = t.beyondReach := by
  funext e
  rw [State.beyondReach, State.lineReached, State.aheadBy, (State.ledger_eq h).2.1]
  rfl

theorem State.told_congr {s t : State} (h : s.ledger = t.ledger) : s.told = t.told := by
  rw [State.told, (State.ledger_eq h).1, State.beyondReach_congr h]

/-- In ACTIVE with room for them, every dropped entry's NOTICE is queued and none is lost (R43, R150). -/
theorem settle_notices_active {order : List SettleAct} (hw : SettleAct.isOrder order = true) {s : State}
    (hc : s.settleNews.change < 0) (ha : s.station = .active) (hs : s.queueShutFrom = none)
    (hr : s.queue.length + s.settleUnit.told ≤ 16) :
    s.settleUnit.Queues s.settleUnit.told (s.settle order) ∧
    ∀ e ∈ s.schedule, ∀ n, e.notify = some n → s.settleUnit.beyondReach e = true →
      ∃ g ∈ (s.settle order).queue, g.kind = .notice ∧ g.destination = n ∧ g.sequence = 0 ∧
        g.payload = noticePayload e .dropped s.settleUnit.lineTime := by
  obtain ⟨l₁, l₂, u, -, h1, h2, hu, hl, ht⟩ := settle_split hw s
  have hroom : s.settleUnit.HasRoom s.settleUnit.told := ⟨ha, hs, .inl hr⟩
  obtain ⟨hroom, hq₁⟩ := foldl_settleAct_queues (news := s.settleNews) h1 hroom
  rw [← hu] at hroom hq₁
  rw [← State.told_congr hl, State.told_eq] at hroom ⊢
  have hroom' : State.HasRoom ((u.schedule.filter u.beyondReach).countP (·.notify.isSome) + 0)
      { u with schedule := u.schedule.filter fun e => !u.beyondReach e } :=
    ⟨hroom.active, hroom.unshut, hroom.room⟩
  obtain ⟨hroom', hq₂, hg⟩ := hroom'.foldl_drop
  have hstep : u.stepSchedule s.settleNews.change = u.dropBeyondReach := by
    rw [State.stepSchedule, if_neg (by omega), if_pos hc]
  obtain ⟨-, hq₃⟩ := foldl_settleAct_queues (news := s.settleNews) h2 hroom'
  rw [ht, hstep]
  have hq := (hq₁.trans ⟨hq₂.count, hq₂.lost, hq₂.time, hq₂.stays⟩).trans hq₃
  rw [Nat.zero_add, Nat.add_zero] at hq
  refine ⟨⟨hq.count, hq.lost, hq.time, hq.stays⟩, fun e he n hn hb => ?_⟩
  have he' : e ∈ u.schedule.filter u.beyondReach :=
    List.mem_filter.mpr ⟨(State.ledger_eq hl).1.symm ▸ he, State.beyondReach_congr hl ▸ hb⟩
  obtain ⟨g, hm, hk, hd, hs, hp⟩ := hg e he' n hn
  exact ⟨g, hq₃.stays g hm hk, hk, hd, hs, hp.trans (congrArg _ hq₁.time)⟩

/-- In SILENCED, and in LISTENING before the listen time is over, every dropped entry's NOTICE is lost and counted (R43,
R150). -/
theorem settle_notices_lost {order : List SettleAct} (hw : SettleAct.isOrder order = true) {s : State}
    (hc : s.settleNews.change < 0)
    (hs : s.station = .silenced ∨ s.station = .listening ∧ s.listenCount + 1 < s.settings.listenTime) :
    (s.settle order).counters.lostNotices = bumpBy s.settleUnit.told s.counters.lostNotices := by
  obtain ⟨l₁, l₂, u, hp, h1, h2, hu, hl, ht⟩ := settle_split hw s
  have hone : (l₁ ++ l₂).count .listenCount = 1 := by
    have := ((perm_of_isOrder hw).trans hp).count_eq SettleAct.listenCount
    rw [List.count_cons_of_ne (by decide)] at this
    exact this.symm
  have hout : s.settleUnit.StaysOut (l₁ ++ l₂) := by rwa [State.StaysOut, hone]
  obtain ⟨hout, e₁⟩ := foldl_settleAct_staysOut (news := s.settleNews) h1 hout
  rw [← hu] at hout e₁
  have hstep : u.stepSchedule s.settleNews.change = u.dropBeyondReach := by
    rw [State.stepSchedule, if_neg (by omega), if_pos hc]
  have hout' : u.dropBeyondReach.StaysOut l₂ := by
    obtain ⟨_, _, _, e⟩ := u.dropBeyondReach_touches
    rw [e]
    exact hout
  have e₂ : u.dropBeyondReach.counters.lostNotices = bumpBy u.told u.counters.lostNotices :=
    (State.foldl_drop_lostNotices _ (s := { u with schedule := u.schedule.filter fun e => !u.beyondReach e })
      hout.not_active).trans (by rw [State.told_eq])
  obtain ⟨-, e₃⟩ := foldl_settleAct_staysOut (l' := []) (news := s.settleNews) h2 (by rwa [List.append_nil])
  rw [ht, hstep]
  refine e₃.trans (e₂.trans ?_)
  rw [e₁, State.told_congr hl]
  rfl

end Sys2Proof.Machine
end

section
/-! The generators at a settle point where no channel enters hold and no entry fires (R68 to R70). -/

namespace Sys2Proof.Machine

/-! ### The acts and the channels -/

/-- At line time `now` a settle point's acts give the channels nothing but the generators' step: no entry is reached
after a forward step, and a loss of lock holds no channel. -/
structure State.Calm (news : SettleNews) (now : Time) (channels : Vector Channel 8) (s : State) : Prop where
  same : s.channels = channels
  time : s.lineTime = now
  ahead : news.change ≤ 0 ∨ ∀ e ∈ s.schedule, isReached now e.due = false
  unheld : news.lossOfLock = false ∨ s.station = .silenced

/-- The schedule's step drops entries, but none fires. -/
theorem State.Calm.stepSchedule {news : SettleNews} {now : Time} {channels : Vector Channel 8} {s : State}
    (h : s.Calm news now channels) : (s.stepSchedule news.change).Calm news now channels := by
  have dropped : ∀ u : State, u.Calm news now channels → u.dropBeyondReach.Calm news now channels := fun u hu => by
    obtain ⟨_, _, _, e⟩ := u.dropBeyondReach_touches
    rw [e]
    exact ⟨hu.same, hu.time, hu.ahead.imp_right fun ha x hx => ha x (List.mem_filter.mp hx).1, hu.unheld⟩
  unfold State.stepSchedule
  split
  case isTrue hc =>
    have ha := h.ahead.resolve_left (by omega)
    have hr : ∀ e ∈ s.schedule, s.lineReached e.due = false := fun e he => by rw [State.lineReached, h.time, ha e he]
    have none_fires : (s.schedule.filter fun e => s.lineReached e.due) = [] :=
      List.filter_eq_nil_iff.mpr fun e he => by simp [hr e he]
    have all_stay : (s.schedule.filter fun e => !s.lineReached e.due) = s.schedule :=
      List.filter_eq_self.mpr fun e he => by simp [hr e he]
    have hf : s.fireReached = s := by
      rw [State.fireReached, none_fires, all_stay]
      rfl
    rw [hf]
    exact dropped s h
  case isFalse =>
    split
    · exact dropped s h
    · exact h

/-- Every act but the generators' leaves the channels. -/
theorem State.Calm.settleAct {news : SettleNews} {now : Time} {channels : Vector Channel 8} {s : State}
    (h : s.Calm news now channels) {a : SettleAct} (ha : a ≠ .generators) :
    (s.settleAct news a).Calm news now channels := by
  by_cases hs : a = .schedule
  · subst hs
    exact h.stepSchedule
  obtain ⟨hsch, hnow, -⟩ := State.ledger_eq (settleAct_ledger news hs s)
  have hch : (s.settleAct news a).channels = s.channels := by
    cases a with
    | agePeers => rfl
    | stampDuty =>
      obtain ⟨_, _, _, e⟩ := s.stampDuty_touches
      rw [State.settleAct, e]
    | listenCount =>
      obtain ⟨_, _, _, _, _, _, _, e⟩ := s.countListen_touches
      rw [State.settleAct, e]
    | hold =>
      unfold State.settleAct
      dsimp only
      rw [if_neg (by obtain h | h := h.unheld <;> simp [h])]
    | generators => exact absurd rfl ha
    | schedule => exact absurd rfl hs
  exact ⟨hch.trans h.same, hnow.trans h.time, hsch.symm ▸ h.ahead, h.unheld.imp_right (settleAct_silenced news a s)⟩

theorem State.Calm.foldl_settleAct {news : SettleNews} {now : Time} {channels : Vector Channel 8} {s : State}
    (h : s.Calm news now channels) {l : List SettleAct} (hl : .generators ∉ l) :
    (l.foldl (fun t a => t.settleAct news a) s).Calm news now channels ∧
      (l.foldl (fun t a => t.settleAct news a) s).counters.frames = s.counters.frames :=
  foldl_settleAct_keeps (P := fun u => u.Calm news now channels ∧ u.counters.frames = s.counters.frames)
    (fun a ha u ⟨hu, hc⟩ => by
      have hg := ne_of_mem_of_not_mem ha hl
      exact ⟨hu.settleAct hg, (congrArg Prod.snd (State.Counts.settleAct news hg u rfl)).trans hc⟩)
    ⟨h, rfl⟩

/-! ### At a settle point -/

/-- The channels and the counters of the generators after a settle point are what the generators' step leaves, from the
channels and counters before it at the new line time. -/
theorem settle_generators {order : List SettleAct} (hw : SettleAct.isOrder order = true) {s : State}
    (hn : s.settleNews.lossOfLock = false ∨ s.station = .silenced)
    (ha : s.settleNews.change ≤ 0 ∨ ∀ e ∈ s.schedule, s.settleUnit.lineReached e.due = false) :
    ∃ u : State, u.channels = s.channels ∧ u.lineTime = s.settleUnit.lineTime ∧
      u.counters.frames = s.counters.frames ∧
      (s.settle order).channels = (u.stepGenerators s.settleNews.change).channels ∧
      (s.settle order).counters.frames = (u.stepGenerators s.settleNews.change).counters.frames := by
  obtain ⟨l₁, l₂, rfl, h1, h2⟩ := exists_split_of_isOrder hw .generators
  have hcalm : s.settleUnit.Calm s.settleNews s.settleUnit.lineTime s.channels := ⟨rfl, rfl, ha, hn⟩
  obtain ⟨hu, hc⟩ := hcalm.foldl_settleAct h1
  have hstep : ((l₁.foldl (fun t a => t.settleAct s.settleNews a) s.settleUnit).stepGenerators
      s.settleNews.change).Calm s.settleNews s.settleUnit.lineTime
        ((l₁.foldl (fun t a => t.settleAct s.settleNews a) s.settleUnit).stepGenerators s.settleNews.change).channels := by
    obtain ⟨_, _, e⟩ := State.stepGenerators_touches s.settleNews.change
      (l₁.foldl (fun t a => t.settleAct s.settleNews a) s.settleUnit)
    exact ⟨rfl, by rw [e]; exact hu.time, by rw [e]; exact hu.ahead, by rw [e]; exact hu.unheld⟩
  obtain ⟨hv, hk⟩ := hstep.foldl_settleAct h2
  have e : s.settle (l₁ ++ .generators :: l₂) = (l₂.foldl (fun t a => t.settleAct s.settleNews a)
      ((l₁.foldl (fun t a => t.settleAct s.settleNews a) s.settleUnit).stepGenerators s.settleNews.change)).followPairs := by
    rw [State.settle, List.foldl_append, List.foldl_cons]
    rfl
  refine ⟨_, hu.same, hu.time, hc, ?_, ?_⟩
  · rw [e]
    exact hv.same
  · rw [e]
    exact hk

/-- A high end passed ends the phase (R64). -/
theorem Channel.endHigh_passed (ch : Channel) (passed : Bool) :
    (if ch.phaseHigh && passed then ch.endHigh else ch) = { ch with phaseHigh := ch.phaseHigh && !passed } := by
  cases passed with
  | true =>
    cases h : ch.phaseHigh with
    | true => rfl
    | false =>
      change ch = { ch with phaseHigh := false }
      rw [← h]
  | false => simp

/-- A generator at a forward step that is not large: a stopped one stays, one whose frame end is ahead has its high end
alone to reach, and one whose frame is over goes on to the frame of the present if it is RUNNING (R68). -/
theorem Channel.stepForward_eq (now : Time) (ch : Channel) :
    (ch.stepForward now).1 =
      (if ch.gen = .stopped then ch
      else if isReached now ch.frameEnd = false then { ch with phaseHigh := ch.phaseHigh && !isReached now ch.highEnd }
      else if ch.gen = .running then ch.completeFrame.skipPassed now
      else ch.completeFrame) ∧
    (ch.stepForward now).2 =
      if ch.gen = .running ∧ isReached now ch.frameEnd = true then ch.completeFrame.framesPassed now else 0 := by
  have hn := ch.endHigh_passed (isReached now ch.highEnd)
  unfold Channel.stepForward Channel.generates
  cases hr : isReached now ch.frameEnd with
  | true => cases hg : ch.gen <;> simp
  | false =>
    rw [← hn]
    cases ch.phaseHigh && isReached now ch.highEnd <;> cases hg : ch.gen <;> simp

/-! ### The three kinds of step -/

section
variable {order : List SettleAct} {s : State}

/-- A large step restarts every generator that runs or stops at the new line time, and counts it (R70). -/
theorem settle_generators_large (hw : SettleAct.isOrder order = true)
    (hn : s.settleNews.lossOfLock = false ∨ s.station = .silenced)
    (ha : s.settleNews.change ≤ 0 ∨ ∀ e ∈ s.schedule, s.settleUnit.lineReached e.due = false)
    (hc : isLarge s.settleNews.change = true) :
    (s.settle order).counters.generatorRestarts =
      bumpBy ((List.finRange 8).countP fun c => s.channels[c].gen != .stopped) s.counters.generatorRestarts ∧
    ∀ c : Fin 8, (s.settle order).channels[c] =
      if s.channels[c].gen = .stopped then s.channels[c] else s.channels[c].startFrame s.settleUnit.lineTime := by
  obtain ⟨u, hu, hnow, hf, e1, e2⟩ := settle_generators hw hn ha
  rw [State.stepGenerators, if_pos hc] at e1 e2
  rw [← hu, ← hnow]
  refine ⟨?_, fun c => ?_⟩
  · refine (congrArg Prod.fst e2).trans ?_
    rw [← (Prod.mk.inj hf).1]
    rfl
  · rw [e1, State.restartGenerators]
    by_cases hg : u.channels[c].gen = .stopped <;> simp_all [Channel.generates]

/-- A step that is not large restarts no generator, and one that is not forward leaves every channel (R69). -/
theorem settle_generators_small (hw : SettleAct.isOrder order = true)
    (hn : s.settleNews.lossOfLock = false ∨ s.station = .silenced)
    (ha : s.settleNews.change ≤ 0 ∨ ∀ e ∈ s.schedule, s.settleUnit.lineReached e.due = false)
    (hc : isLarge s.settleNews.change = false) :
    (s.settle order).counters.generatorRestarts = s.counters.generatorRestarts ∧
    (s.settleNews.change ≤ 0 → (s.settle order).channels = s.channels) := by
  obtain ⟨u, hu, hnow, hf, e1, e2⟩ := settle_generators hw hn ha
  rw [State.stepGenerators, if_neg (by simp [hc])] at e1 e2
  refine ⟨(congrArg Prod.fst e2).trans ?_, fun h => ?_⟩
  · rw [← (Prod.mk.inj hf).1]
    split <;> rfl
  · rw [e1, if_neg (by omega), hu]

/-- A forward step that is not large moves each generator on, and counts the frames skipped (R68). -/
theorem settle_generators_forward (hw : SettleAct.isOrder order = true)
    (hn : s.settleNews.lossOfLock = false ∨ s.station = .silenced)
    (ha : s.settleNews.change ≤ 0 ∨ ∀ e ∈ s.schedule, s.settleUnit.lineReached e.due = false)
    (hc : isLarge s.settleNews.change = false) (hp : 0 < s.settleNews.change) :
    (s.settle order).counters.framesSkipped =
      bumpBy ((List.finRange 8).map fun c => (s.channels[c].stepForward s.settleUnit.lineTime).2).sum
        s.counters.framesSkipped ∧
    ∀ c : Fin 8, (s.settle order).channels[c] = (s.channels[c].stepForward s.settleUnit.lineTime).1 := by
  obtain ⟨u, hu, hnow, hf, e1, e2⟩ := settle_generators hw hn ha
  rw [State.stepGenerators, if_neg (by simp [hc]), if_pos hp] at e1 e2
  rw [← hu, ← hnow]
  refine ⟨?_, fun c => ?_⟩
  · refine (congrArg Prod.snd e2).trans ?_
    rw [← (Prod.mk.inj hf).2]
    rfl
  · rw [e1, State.stepGeneratorsForward]
    simp

end

end Sys2Proof.Machine
end

section
/-! The settle point as a whole (R7 to R22, R38, R43, R68 to R70). -/

namespace Sys2Proof.Machine

theorem isLarge_iff (change : Int) : isLarge change = true ↔ 50000000 < change ∨ change < -50000000 :=
  (Bool.or_eq_true_iff).trans (or_congr decide_eq_true_iff decide_eq_true_iff)

/-- A settle point at the timer's expiry completes. -/
theorem exec_settlePoint_next {order : List SettleAct} {s : State} (hw : (Instr.settlePoint order).wellFormed = true)
    (he : s.settleExpires = true) : exec (.settlePoint order) s = .next (s.settle order) :=
  whenFormed_of_wellFormed hw (if_pos he)

/-- What a settle point leaves, and its next time. -/
theorem settle_frame (order : List SettleAct) (s : State) :
    (s.settle order).lastDelta = BitVec.ofInt 32 s.settleDelta ∧
    (s.settle order).settleNext = (s.settleNext.map fun t => later t s.settings.settleInterval) ∧
    (s.settle order).restartPending = s.restartPending ∧ (s.settle order).resetHeld = s.resetHeld ∧
    (s.settle order).reading = s.reading ∧ (s.settle order).imageBits = s.imageBits ∧
    (s.settle order).cfgMemory = s.cfgMemory ∧ s.KeepsCaptures (s.settle order) ∧ (s.settle order).slots = s.slots ∧
    (s.settle order).draws = s.draws ∧ (s.settle order).pending = s.pending := by
  obtain ⟨_, _, _, _, _, _, _, _, _, _, _, _, e⟩ := State.settle_touches order s
  rw [e]
  exact ⟨rfl, rfl, rfl, rfl, rfl, rfl, rfl, ⟨rfl, rfl, rfl, rfl⟩, rfl, rfl, rfl⟩

/-- An entry is outside the bound of R27 after a settle point exactly when it is by the forward distance of its due. -/
theorem settle_aheadBy (order : List SettleAct) (s : State) (e : Entry) :
    s.settleUnit.beyondReach e =
      !decide (1 ≤ (s.settle order).aheadBy e.due ∧ (s.settle order).aheadBy e.due ≤ 100000000) := by
  rw [State.aheadBy, settle_lineTime, ← Bool.not_eq_eq_eq_not, Bool.eq_iff_iff, decide_eq_true_iff,
    ← State.aheadBy, ← State.beyondReach_eq_false_iff, Bool.not_eq_true']

/-- Settles O7: the line time unit's own work, then the six acts, each through what it alone moves. -/
theorem settlePointCompletes : Obligations.SettlePointCompletes := by
  intro order s u change hw hr hu hl hchange
  obtain rfl : change = s.settleNews.change := hchange
  have he : s.settleExpires = true := by simp [State.settleExpires, hr, hu, hl]
  have hw' : SettleAct.isOrder order = true := hw
  obtain ⟨hc, hs, ht, hg⟩ := settle_fields order s
  obtain ⟨hd, hn, hrest⟩ := settle_frame order s
  have hnow := settle_lineTime order s
  have hreach : ∀ due, (s.settle order).lineReached due = s.settleUnit.lineReached due := fun due => by
    rw [State.lineReached, hnow]
    rfl
  have not_large : -50000000 ≤ s.settleNews.change → s.settleNews.change ≤ 50000000 →
      isLarge s.settleNews.change = false := fun h1 h2 => by
    rw [← Bool.not_eq_true, isLarge_iff]
    omega
  have hbound := funext (settle_aheadBy order s)
  have htold : s.settleUnit.told = s.schedule.countP fun e =>
      e.notify.isSome && !decide (1 ≤ (s.settle order).aheadBy e.due ∧ (s.settle order).aheadBy e.due ≤ 100000000) := by
    rw [State.told, hbound]
    rfl
  obtain ⟨hpend, hheld, hread, hbits, hmem, hcap, hslots, hdraws, hwait⟩ := hrest
  refine ⟨s.settle order, exec_settlePoint_next hw he, hc, hs, hd, ?_, ht, hg, hpend, hheld, hread, hbits, hmem, hcap,
    hslots, hdraws, hwait, settle_schedule_still hw', fun hb => ?_, fun told hb hcount => ⟨fun ha hs hr => ?_, fun hs => ?_⟩,
    ?_, fun hp hl => ⟨fun e he hr => ?_, fun hn v hv => ?_⟩, fun hn ha => ⟨fun hbig => ?_, fun h1 h2 => ?_, fun h1 h2 => ?_,
      fun h1 h2 => ?_⟩⟩
  · rw [hn, hu]
    rfl
  · have h := settle_schedule_backward hw' hb
    simp only [hbound, Bool.not_not] at h
    exact ⟨congrArg Ledger.entries h, congrArg Ledger.dropped h, congrArg Ledger.fired h, congrArg Ledger.skipped h⟩
  · have e := htold.trans hcount.symm
    obtain ⟨hq, hg⟩ := settle_notices_active hw' hb ha hs (e ▸ hr)
    refine ⟨e ▸ hq.count, hq.lost, fun x hx n hxn hout => ?_⟩
    rw [hnow]
    exact hg x hx n hxn (by simpa only [hbound, Bool.not_eq_true', decide_eq_false_iff_not] using hout)
  · exact htold.trans hcount.symm ▸ settle_notices_lost hw' hb hs
  · exact (congrArg (·.2.2) (settle_timing order s)).trans (if_congr (isLarge_iff _) rfl rfl)
  · rw [hreach] at hr
    exact (settle_schedule_forward hw' hp hl).1 e he hr
  · have h := (settle_schedule_forward hw' hp hl).2 hn
    cases hv
    exact ⟨congrArg Ledger.entries h, congrArg Ledger.fired h, congrArg Ledger.dropped h, congrArg Ledger.skipped h⟩
  all_goals simp only [hreach] at ha
  · rw [hnow]
    exact settle_generators_large hw' hn ha ((isLarge_iff _).mpr hbig)
  · exact (settle_generators_small hw' hn ha (not_large h1 (by omega))).2 h2
  · exact (settle_generators_small hw' hn ha (not_large h1 h2)).1
  · simp only [hreach]
    rw [hnow]
    obtain ⟨hskip, hch⟩ := settle_generators_forward hw' hn ha (not_large (by omega) h2) h1
    refine ⟨hskip.trans ?_, fun c => (hch c).trans (Channel.stepForward_eq ..).1⟩
    simp only [(Channel.stepForward_eq ..).2]
    rfl

end Sys2Proof.Machine
end

section
/-! SUPPORT. What the schedule's law asks, kept by an insertion, a removal and the firing of the reached entries, and by a
step of line time (R26, R27). -/

namespace Sys2Proof.Machine

/-! ### Where an entry stands -/

/-- An entry ahead by at most the reach limit stands as far ahead as its forward distance says. -/
theorem Entry.place_of_inReach {now : Time} {e : Entry} (h : forward now e.due ≤ reachLimit) :
    e.place now = forward now e.due := by
  rw [Entry.place, signedDiff_eq, if_neg (by unfold reachLimit at h; omega)]

/-- A step of line time moves each entry's place back by as much, as long as it stands on the circle's near half. -/
theorem Entry.place_step {now : Time} {change : Int} {e : Entry} (h1 : -2147483648 ≤ e.place now - change)
    (h2 : e.place now - change ≤ 2147483647) : e.place (now + BitVec.ofInt 32 change) = e.place now - change := by
  have hlow := BitVec.le_toInt (e.due - now)
  have hhigh := BitVec.toInt_lt (x := e.due - now)
  have hdue : e.due = now + BitVec.ofInt 32 (e.place now) :=
    (signedDiff_eq_iff now e.due (by exact hlow) (by exact Int.le_sub_one_of_lt hhigh)).mp rfl
  refine (signedDiff_eq_iff _ _ h1 h2).mpr ?_
  rw [add_assoc, ← BitVec.ofInt_add, add_sub_cancel]
  exact hdue

/-- An entry of the schedule's law is reached only just now (R27). -/
theorem Entry.place_eq_zero_of_reached {now : Time} {e : Entry} (hp : 0 ≤ e.place now)
    (hr : isReached now e.due = true) : e.due = now := by
  have h0 : forward now e.due = 0 := by
    rw [Entry.place, signedDiff_eq] at hp
    rw [isReached_iff] at hr
    have := (e.due - now).isLt
    unfold forward at hp hr ⊢
    split at hp <;> omega
  exact sub_eq_zero.mp (BitVec.eq_of_toNat_eq h0)

/-! ### What follows a firing -/

/-- The entry that a firing leaves is the one that fired, at its next due, with a repeat still in range (R41). -/
theorem Entry.afterFiring_some {now : Time} {e next : Entry} (h : (e.afterFiring now).1 = some next)
    (hr : ∀ r ∈ e.repetition, r.inBounds) :
    next.origin = e.origin ∧ next.tag = e.tag ∧ ∀ r ∈ next.repetition, r.inBounds := by
  unfold Entry.afterFiring at h
  cases hrep : e.repetition with
  | none => simp [hrep] at h
  | some r =>
    rw [hrep] at h
    dsimp only at h
    split at h
    · cases h
      exact ⟨rfl, rfl, fun n hn => hr n (hrep.trans hn)⟩
    · split at h <;> rename_i hc
      · cases h
      · cases h
        obtain ⟨h1, h2, -⟩ := hr r hrep
        refine ⟨rfl, rfl, fun n hn => ?_⟩
        cases hn
        exact ⟨h1, h2, fun h0 => hc (Nat.le_of_sub_eq_zero (Option.some.inj h0))⟩

/-! ### The law -/

/-- Two entries are not of one origin and tag (R26). -/
abbrev Entry.Differs (a b : Entry) : Prop := ¬(a.origin = b.origin ∧ a.tag = b.tag)

theorem Entry.Differs.symm {a b : Entry} (h : a.Differs b) : b.Differs a := fun h' => h ⟨h'.1.symm, h'.2.symm⟩

namespace State.ScheduleLaw

variable {s t : State}

theorem few (h : s.ScheduleLaw) : s.schedule.length ≤ scheduleLimit := h.1

theorem distinct (h : s.ScheduleLaw) : s.schedule.Pairwise Entry.Differs := h.2.1

theorem sorted (h : s.ScheduleLaw) : s.schedule.Pairwise fun a b => a.place s.lineTime ≤ b.place s.lineTime := h.2.2.1

theorem placed (h : s.ScheduleLaw) :
    ∀ e ∈ s.schedule, 0 ≤ e.place s.lineTime ∧ e.place s.lineTime ≤ (reachLimit : Int) := h.2.2.2.1

theorem bounds (h : s.ScheduleLaw) : ∀ e ∈ s.schedule, ∀ r ∈ e.repetition, r.inBounds := h.2.2.2.2

theorem congr (h : s.ScheduleLaw) (hs : t.schedule = s.schedule) (hn : t.lineTime = s.lineTime) : t.ScheduleLaw := by
  rw [State.ScheduleLaw, hs, hn]
  exact h

theorem of_empty (hs : t.schedule = []) : t.ScheduleLaw := by simp [State.ScheduleLaw, hs]

/-- A removal keeps the law. -/
theorem filter (h : s.ScheduleLaw) (p : Entry → Bool) (hs : t.schedule = s.schedule.filter p)
    (hn : t.lineTime = s.lineTime) : t.ScheduleLaw := by
  rw [State.ScheduleLaw, hs, hn]
  exact ⟨(List.length_filter_le ..).trans h.few, h.distinct.filter _, h.sorted.filter _,
    fun e he => h.placed e (List.mem_of_mem_filter he), fun e he => h.bounds e (List.mem_of_mem_filter he)⟩

/-- A new entry, not reached before now and within reach, is inserted where there is room (R26, R27, R35). -/
theorem insert (h : s.ScheduleLaw) {e : Entry} (hroom : s.schedule.length < scheduleLimit)
    (hnew : s.holdsEntry e.origin e.tag = false) (hp : 0 ≤ e.place s.lineTime ∧ e.place s.lineTime ≤ (reachLimit : Int))
    (hr : ∀ r ∈ e.repetition, r.inBounds) : (s.insert e).ScheduleLaw := by
  refine ⟨?_, ?_, insertEntry_sorted _ _ _ h.sorted, fun x hx => ?_, fun x hx => ?_⟩
  · rw [State.insert_schedule, length_insertEntry]
    exact hroom
  · refine ((insertEntry_perm ..).pairwise_iff Entry.Differs.symm).mpr (List.pairwise_cons.mpr ⟨fun x hx hd => ?_, h.distinct⟩)
    have := List.any_eq_false.mp hnew x hx
    simp [Entry.named, hd.1, hd.2] at this
  · obtain rfl | hx := (mem_insertEntry ..).mp hx
    exacts [hp, h.placed x hx]
  · obtain rfl | hx := (mem_insertEntry ..).mp hx
    exacts [hr, h.bounds x hx]

end State.ScheduleLaw

/-! ### The firing of the reached entries -/

/-- The entries of a list wait to fire, taken out of a schedule that meets the law with them (R37). -/
structure Firing (now : Time) (waiting : List Entry) (s : State) : Prop where
  time : s.lineTime = now
  few : (waiting ++ s.schedule).length ≤ scheduleLimit
  distinct : (waiting ++ s.schedule).Pairwise Entry.Differs
  sorted : s.schedule.Pairwise fun a b => a.place now ≤ b.place now
  placed : ∀ e ∈ s.schedule, 0 ≤ e.place now ∧ e.place now ≤ (reachLimit : Int)
  bounds : ∀ e ∈ waiting ++ s.schedule, ∀ r ∈ e.repetition, r.inBounds
  recent : ∀ e ∈ waiting, ticksSince now e.due < 2147483648

namespace Firing

variable {now : Time} {e : Entry} {rest : List Entry} {s : State}

/-- A firing keeps what the entries still waiting need: it gives the place it takes to its own repeat at most. -/
theorem fire (h : Firing now (e :: rest) s) : Firing now rest (s.fire e) := by
  obtain ⟨hl, hs⟩ := s.fire_schedule e
  have hd := List.pairwise_cons.mp h.distinct
  have hrest : ∀ x ∈ rest, ticksSince now x.due < 2147483648 := fun x hx => h.recent x (List.mem_cons_of_mem _ hx)
  have hbounds : ∀ x ∈ rest ++ s.schedule, ∀ r ∈ x.repetition, r.inBounds := fun x hx =>
    h.bounds x (List.mem_cons_of_mem _ hx)
  have hfew : (rest ++ s.schedule).length + 1 ≤ scheduleLimit := h.few
  obtain hs | ⟨next, held, ha, hs⟩ := hs
  · exact ⟨hl.trans h.time, by rw [hs]; omega, hs ▸ hd.2, hs ▸ h.sorted, hs ▸ h.placed, hs ▸ hbounds, hrest⟩
  · rw [h.time] at ha hs
    have hrep : ∀ r ∈ e.repetition, r.inBounds := h.bounds e (List.mem_cons_self ..)
    obtain ⟨ho, ht, hb⟩ := Entry.afterFiring_some ha hrep
    obtain ⟨h1, h2⟩ := Entry.afterFiring_ahead ha hrep (h.recent e (List.mem_cons_self ..))
    have hp : next.place now = forward now next.due := Entry.place_of_inReach (h2.trans (by decide))
    have hperm : (rest ++ insertEntry now next s.schedule).Perm (next :: (rest ++ s.schedule)) :=
      ((insertEntry_perm ..).append_left rest).trans List.perm_middle
    refine ⟨hl.trans h.time, ?_, ?_, ?_, fun x hx => ?_, fun x hx => ?_, hrest⟩ <;> rw [hs] at *
    · rw [hperm.length_eq]
      exact hfew
    · refine (hperm.pairwise_iff Entry.Differs.symm).mpr (List.pairwise_cons.mpr ⟨fun x hx hd' => ?_, hd.2⟩)
      exact hd.1 x hx ⟨ho.symm.trans hd'.1, ht.symm.trans hd'.2⟩
    · exact insertEntry_sorted _ _ _ h.sorted
    · obtain rfl | hx := (mem_insertEntry ..).mp hx
      · rw [hp]
        exact ⟨by omega, by unfold reachLimit; omega⟩
      · exact h.placed x hx
    · obtain rfl | hx := List.mem_cons.mp (hperm.mem_iff.mp hx)
      exacts [hb, hbounds x hx]

/-- When all have fired, the schedule meets its law. -/
theorem scheduleLaw {waiting : List Entry} (h : Firing now waiting s) :
    (waiting.foldl (fun t e => t.fire e) s).ScheduleLaw := by
  induction waiting generalizing s with
  | nil =>
    obtain ⟨rfl, h2, h3, h4, h5, h6, -⟩ := h
    exact ⟨h2, h3, h4, h5, h6⟩
  | cons e rest ih => exact ih h.fire

end Firing

/-- The reached entries of a schedule in order fire, and leave it in order, wherever a forward step may have left them
(R37, R38). -/
theorem State.SteppedForward.fireReached {s : State} (h : s.SteppedForward) (hfew : s.schedule.length ≤ scheduleLimit)
    (hd : s.schedule.Pairwise Entry.Differs)
    (hsort : s.schedule.Pairwise fun a b => a.place s.lineTime ≤ b.place s.lineTime) : s.fireReached.ScheduleLaw := by
  obtain ⟨hb, hp⟩ := h
  have hperm := List.filter_append_perm (fun e => s.lineReached e.due) s.schedule
  refine Firing.scheduleLaw (now := s.lineTime) ⟨rfl, hperm.length_eq.trans_le hfew, (hperm.pairwise_iff Entry.Differs.symm).mpr hd,
    hsort.filter _, fun e he => ?_, fun e he => hb e (hperm.mem_iff.mp he), fun e he => ?_⟩
  · obtain ⟨he, hr⟩ := List.mem_filter.mp he
    have hn := hp e he
    rw [if_neg (by simpa using hr)] at hn
    rw [Entry.place_of_inReach hn]
    exact ⟨Int.natCast_nonneg _, Int.ofNat_le.mpr hn⟩
  · obtain ⟨he, hr⟩ := List.mem_filter.mp he
    have hn := hp e he
    rwa [if_pos hr] at hn

namespace State.ScheduleLaw

variable {s t : State}

/-- By the law, the entries that are not ahead are due just now. -/
theorem due_of_reached (h : s.ScheduleLaw) {e : Entry} (he : e ∈ s.schedule) (hr : s.lineReached e.due = true) :
    e.due = s.lineTime := Entry.place_eq_zero_of_reached (h.placed e he).1 hr

/-- The law leaves no entry further back than a forward step may leave it. -/
theorem steppedForward_self (h : s.ScheduleLaw) : s.SteppedForward := by
  refine ⟨h.bounds, fun e he => ?_⟩
  split <;> rename_i hr
  · rw [h.due_of_reached he hr]
    simp [ticksSince, forward]
  · obtain ⟨-, h2⟩ := h.placed e he
    obtain ⟨-, hf⟩ := (isReached_eq_false_iff ..).mp (Bool.not_eq_true _ ▸ hr)
    rw [Entry.place, signedDiff_eq, if_neg (by omega)] at h2
    exact Int.ofNat_le.mp h2

/-- The firing of the reached entries keeps the law (R37). -/
theorem fireReached (h : s.ScheduleLaw) : s.fireReached.ScheduleLaw :=
  h.steppedForward_self.fireReached h.few h.distinct h.sorted

/-- No entry is reached once the reached ones have fired (R41). -/
theorem not_reached_fireReached (h : s.ScheduleLaw) :
    ∀ e ∈ s.fireReached.schedule, s.fireReached.lineReached e.due = false := fun e he =>
  (Bool.or_eq_false_iff.mp (h.steppedForward_self.inReach e he)).1

/-- An entry that may be inserted may be armed, ahead or reached (R35, R37). -/
theorem armEntry {e : Entry} (h : (s.insert e).ScheduleLaw) : (s.armEntry e).ScheduleLaw := by
  unfold State.armEntry
  split
  exacts [h.fireReached, h]

end State.ScheduleLaw

end Sys2Proof.Machine
end

section
/-! SUPPORT. The schedule's law at a settle point and at a tick, which move line time (R27, R38, R43). -/

namespace Sys2Proof.Machine

/-! ### The settle point -/

/-- Line time after the line time unit's own work (R2, R12). -/
theorem State.settleUnit_lineTime (s : State) :
    s.settleUnit.lineTime = s.lineTime + BitVec.ofInt 32 s.settleNews.change := (add_assoc ..).symm

/-- A step back is shorter than the circle's other half. -/
theorem State.le_change (s : State) : -2147483648 ≤ s.settleNews.change := by
  have hd : -2147483648 ≤ s.settleDelta :=
    (midpoint_mem_range (trim_ne_nil (List.cons_ne_nil _ _)) fun x hx => s.valueList_range x (mem_of_mem_trim hx)).1
  change -2147483648 ≤ correctionChange s.sync s.settings.stepLimit s.valueList.length s.settleDelta
  unfold correctionChange clampTo
  repeat' split
  all_goals omega

/-- Entries whose places a step of line time moves alike stay in order. -/
theorem sorted_of_place_step {now now' : Time} {change : Int} {l : List Entry}
    (h : l.Pairwise fun a b => a.place now ≤ b.place now) (hp : ∀ e ∈ l, e.place now' = e.place now - change) :
    l.Pairwise fun a b => a.place now' ≤ b.place now' :=
  h.imp_of_mem fun ha hb hab => by rw [hp _ ha, hp _ hb]; omega

namespace State.ScheduleLaw

variable {s : State}

/-- A forward step: every entry moves back by the change, and then the reached ones fire (R38). -/
theorem step_forward (h : s.ScheduleLaw) {u : State} (hc : 0 < s.settleNews.change)
    (hs : u.schedule = s.schedule) (hn : u.lineTime = s.settleUnit.lineTime) :
    (u.stepSchedule s.settleNews.change).ScheduleLaw := by
  have hfwd : u.SteppedForward := by
    have := h.steppedForward hc
    unfold State.SteppedForward State.lineReached State.aheadBy at this ⊢
    rwa [hs, hn]
  have hfired : u.fireReached.ScheduleLaw := by
    refine hfwd.fireReached (hs ▸ h.few) (hs ▸ h.distinct) ?_
    rw [hs, hn, State.settleUnit_lineTime]
    refine sorted_of_place_step h.sorted fun e he => Entry.place_step ?_ ?_
    all_goals
      have := h.placed e he
      have := s.change_le
      unfold reachLimit at *
      omega
  obtain ⟨he, ht, -⟩ := State.ledger_eq (State.dropBeyondReach_of_inReach hfwd.inReach)
  rw [State.stepSchedule, if_pos hc]
  exact hfired.congr he ht

/-- A backward step: the entries beyond reach are dropped, and the others move ahead by the change (R43). -/
theorem step_backward (h : s.ScheduleLaw) {u : State} (hc : s.settleNews.change < 0)
    (hs : u.schedule = s.schedule) (hn : u.lineTime = s.settleUnit.lineTime) :
    (u.stepSchedule s.settleNews.change).ScheduleLaw := by
  have hkept : ∀ e ∈ s.schedule.filter (fun e => !u.beyondReach e),
      1 ≤ e.place u.lineTime ∧ e.place u.lineTime ≤ (reachLimit : Int) ∧
        e.place u.lineTime = e.place s.lineTime - s.settleNews.change := fun e he => by
    obtain ⟨he, hb⟩ := List.mem_filter.mp he
    obtain ⟨h1, h2⟩ := (u.beyondReach_eq_false_iff e).mp (by simpa using hb)
    have hplace : e.place u.lineTime = u.aheadBy e.due := Entry.place_of_inReach h2
    have hfwd : (u.aheadBy e.due : Int) = (e.place s.lineTime - s.settleNews.change) % 4294967296 := by
      have hdue : e.due = s.lineTime + BitVec.ofInt 32 (e.place s.lineTime) :=
        sub_eq_iff_eq_add'.mp (BitVec.ofInt_toInt ..).symm
      have hstep : e.due - u.lineTime = BitVec.ofInt 32 (e.place s.lineTime - s.settleNews.change) := by
        rw [hn, State.settleUnit_lineTime, sub_eq_add_neg (e.place _), BitVec.ofInt_add, BitVec.ofInt_neg]
        conv_lhs => rw [hdue]
        rw [add_sub_add_left_eq_sub, sub_eq_add_neg]
      rw [State.aheadBy, forward, hstep, BitVec.toNat_ofInt]
      omega
    obtain ⟨h3, h4⟩ := h.placed e he
    have := s.le_change
    unfold reachLimit at h4 ⊢
    omega
  have hdrop := u.dropBeyondReach_ledger
  have he : u.dropBeyondReach.schedule = s.schedule.filter fun e => !u.beyondReach e :=
    hs ▸ congrArg Ledger.entries hdrop
  have ht : u.dropBeyondReach.lineTime = u.lineTime := congrArg Ledger.now hdrop
  rw [State.stepSchedule, if_neg (by omega), if_pos hc, State.ScheduleLaw, he, ht]
  refine ⟨(List.length_filter_le ..).trans h.few, h.distinct.filter _, ?_, fun e he => ?_, fun e he => ?_⟩
  · exact sorted_of_place_step (h.sorted.filter _) fun e he => (hkept e he).2.2
  · obtain ⟨h6, h7, -⟩ := hkept e he
    exact ⟨by omega, h7⟩
  · exact h.bounds e (List.mem_of_mem_filter he)

/-- A settle point keeps the schedule's law, whatever its change of line time (R38, R43). -/
theorem settle (h : s.ScheduleLaw) {order : List SettleAct} (hw : SettleAct.isOrder order = true) :
    (s.settle order).ScheduleLaw := by
  obtain ⟨u, hu, -, ht⟩ := settle_ledger hw s
  obtain ⟨hs, hn, -⟩ := State.ledger_eq hu
  have hstep : (u.stepSchedule s.settleNews.change).ScheduleLaw := by
    obtain hc | hc | hc := lt_trichotomy s.settleNews.change 0
    · exact h.step_backward hc hs hn
    · rw [State.stepSchedule, if_neg (by omega), if_neg (by omega)]
      refine h.congr hs (hn.trans ?_)
      rw [State.settleUnit_lineTime, hc]
      exact add_zero _
    · exact h.step_forward hc hs hn
  obtain ⟨he, hl, -⟩ := State.ledger_eq ht
  exact hstep.congr he hl

/-! ### A tick -/

/-- A tick passes only when no entry is reached, so none falls behind the present (R27, R37). -/
theorem tick (h : s.ScheduleLaw) (hn : s.ownEvent = none) : s.tick.ScheduleLaw := by
  have hahead : ∀ e ∈ s.schedule, s.lineReached e.due = false := by
    by_contra hr
    have hdue : (s.schedule.any fun e => s.lineReached e.due) = true := by simpa using hr
    simp [State.ownEvent, State.ownEvents, Instr.dueIf, hdue] at hn
  cases hh : s.resetHeld with
  | true => simpa [State.tick, hh] using h
  | false =>
    have hs : s.tick.schedule = s.schedule := by rw [State.tick_eq hh]
    have hl : s.tick.lineTime = s.lineTime + BitVec.ofInt 32 1 := by
      rw [State.tick_eq hh]
      exact add_right_comm ..
    have hplace : ∀ e ∈ s.schedule, 1 ≤ e.place s.lineTime := fun e he => by
      have hp := (h.placed e he).1
      have hf := (isReached_eq_false_iff ..).mp (hahead e he)
      rw [Entry.place, signedDiff_eq] at hp ⊢
      split <;> omega
    have hstep : ∀ e ∈ s.schedule, e.place s.tick.lineTime = e.place s.lineTime - 1 := fun e he => by
      have := hplace e he
      have := (h.placed e he).2
      unfold reachLimit at this
      rw [hl, Entry.place_step] <;> omega
    rw [State.ScheduleLaw, hs]
    refine ⟨h.few, h.distinct, sorted_of_place_step h.sorted hstep, fun e he => ?_, h.bounds⟩
    have := hplace e he
    have := (h.placed e he).2
    rw [hstep e he]
    omega

end State.ScheduleLaw

end Sys2Proof.Machine
end

section
/-! SUPPORT. What one event can do to the schedule and the reaction table, said once as a chain of their own operations
(`Plans`). -/

namespace Sys2Proof.Machine

/-- What the laws of the schedule and of the templates read. -/
abbrev State.plan (s : State) : List Entry × Vector (Option Reaction) 24 × Time := (s.schedule, s.slots, s.lineTime)

/-- The states that an event which finds the station in `s₀` can bring about, as the schedule and the reaction table see
it, but for a reset and for a settle point. -/
inductive Plans (s₀ : State) : State → Prop
  | start : Plans s₀ s₀
  /-- What touches neither the schedule, nor the reaction table, nor line time. -/
  | apart {s t : State} (h : Plans s₀ s) (e : t.plan = s.plan) : Plans s₀ t
  /-- A restart or an entry into SILENCED empties the schedule (R188, R191). -/
  | clear {s t : State} (h : Plans s₀ s) (hs : t.schedule = []) (hr : t.slots = s.slots) : Plans s₀ t
  | fireReached {s : State} (h : Plans s₀ s) : Plans s₀ s.fireReached
  | removeEntries {s : State} (h : Plans s₀ s) (gone : Entry → Bool) (o : NoticeOutcome) :
      Plans s₀ (s.removeEntries gone o)
  | arm {s : State} (h : Plans s₀ s) (n : Nat) (r : ArmRequest) : Plans s₀ (s.arm n r).1
  | matchTaken {s : State} (h : Plans s₀ s) (m : Mark) (r : Reaction) (i : Fin 24) (hr : s.slots[i] = some r) :
      Plans s₀ (s.matchTaken m r i)
  | install {s : State} (h : Plans s₀ s) (n : Nat) (r : InstallRequest) : Plans s₀ (s.install n r).1
  | removeReaction {s : State} (h : Plans s₀ s) (n : Nat) : Plans s₀ (s.removeReaction n).1
  | clearCounters {s : State} (h : Plans s₀ s) : Plans s₀ s.clearCounters

/-! ### What leaves the plan as it was -/

theorem State.arrive_plan (kind : TxKind) (d : Nat) (q : BitVec 4) (p : List Byte) (r : Bool) (s : State) :
    (s.arrive kind d q p r).plan = s.plan := by
  obtain ⟨_, _, _, e⟩ := s.arrive_touches kind d q p r
  rw [e]
  rfl

theorem State.reply_plan (k : FrameKind) (f : Frame) (c : ResultCode) (dup : Bool) (d : Word16) (r : Bool) (s : State) :
    (s.reply k f c dup d r).plan = s.plan := by
  obtain ⟨_, _, _, e⟩ := s.reply_touches k f c dup d r
  rw [e]
  rfl

theorem State.publishMark_plan (r : CaptureRecord) (s : State) : (s.publishMark r).plan = s.plan := by
  obtain ⟨_, _, _, e⟩ := s.publishMark_touches r
  rw [e]
  rfl

theorem State.acceptImage_plan (image : List Byte) (s : State) : (s.acceptImage image).plan = s.plan := by
  obtain ⟨_, _, e⟩ := s.acceptImage_touches image
  rw [e]
  rfl

namespace Plans

variable {s₀ s : State}

/-! ### Restart and silencing -/

theorem takeRestart (h : Plans s₀ s) : Plans s₀ s.takeRestart := by
  obtain ⟨_, _, _, e⟩ := s.takeRestart_touches
  exact h.clear (by rw [e]) (by rw [e])

theorem silence (h : Plans s₀ s) : Plans s₀ s.silence := by
  obtain ⟨_, _, _, e⟩ := s.silence_touches
  exact h.clear (by rw [e]) (by rw [e])

theorem duplicateFound (h : Plans s₀ s) : Plans s₀ s.duplicateFound := by
  have dropped : Plans s₀ { s with line := { s.line with latched := none } } := h.apart rfl
  unfold State.duplicateFound
  dsimp only
  split
  case h_1 | h_2 => exact dropped.silence
  case h_3 => exact dropped
  all_goals exact h

/-! ### Marks and captures -/

theorem takeMark (h : Plans s₀ s) (m : Mark) : Plans s₀ (s.takeMark m) := by
  unfold State.takeMark
  generalize List.finRange 24 = l
  induction l generalizing s with
  | nil => exact h
  | cons i rest ih =>
    refine ih ?_
    change Plans s₀ (s.markSlot m i)
    obtain ⟨-, e⟩ | ⟨r, hr, -, e⟩ := State.markSlot_cases m i s <;> rw [e]
    exacts [h, h.matchTaken m r i hr]

theorem distribute (h : Plans s₀ s) (r : CaptureRecord) (first : Bool) : Plans s₀ (s.distribute r first) := by
  unfold State.distribute State.handLocalMark
  split
  · split
    · exact (h.apart (s.publishMark_plan r)).takeMark _
    · exact (h.takeMark _).apart (State.publishMark_plan r _)
  · exact h.takeMark _
  all_goals exact h

theorem edgeOfInterest (h : Plans s₀ s) (i : Fin 4) (e : Edge) (first : Bool) : Plans s₀ (s.edgeOfInterest i e first) := by
  unfold State.edgeOfInterest
  repeat' split
  · exact h.apart rfl
  · exact (h.apart (t := (s.openHoldOff i).logCapture ((s.openHoldOff i).captureRecord i e)) rfl).distribute _ _
  · exact h.apart rfl

theorem captureEdge {i : Fin 4} {e : Edge} {first : Bool} {t : State} (hx : execCaptureEdge i e first s = .next t) :
    Plans s t := by
  cases hx
  have levelled : Plans s (s.setLevel i (levelAfter e)) := start.apart rfl
  repeat' split
  exacts [start.apart rfl, start, (levelled.edgeOfInterest i e first).apart rfl, levelled]

/-! ### The hand-over of a frame, and the decoder -/

theorem handOver (h : Plans s₀ s) {f : Frame} {next : State → State}
    (hn : ∀ {t}, Plans s₀ t → Plans s₀ (next t)) : Plans s₀ (s.handOver f next) := by
  obtain ⟨-, e⟩ | ⟨-, -, e⟩ | ⟨-, -, e⟩ := State.handOver_cases f next s <;> rw [e]
  exacts [h, h.duplicateFound, hn (h.apart rfl)]

/-- What the decoder needs of a command's payload check and dispatch. -/
abbrev Body (s₀ : State) (body : State → State × ResultCode × Word16) : Prop :=
  ∀ {t : State}, Plans s₀ t → Plans s₀ (body t).1

theorem decode (h : Plans s₀ s) (kind : CommandKind) (f : Frame) {body : State → State × ResultCode × Word16}
    {conclude : ResultCode → Word16 → State → State} (hb : Body s₀ body)
    (hc : ∀ {c d t}, Plans s₀ t → Plans s₀ (conclude c d t)) : Plans s₀ (s.decode kind f body conclude) := by
  obtain ⟨-, e⟩ | ⟨-, -, e⟩ | ⟨-, -, r, -, e⟩ | ⟨-, -, -, e⟩ := State.decode_cases kind f body conclude s <;> rw [e]
  · exact h
  · exact h.apart rfl
  · exact h.apart (State.reply_plan ..)
  · exact hc ((hb h).apart rfl)

theorem command (h : Plans s₀ s) (kind : CommandKind) {f : Frame} {body : State → State × ResultCode × Word16}
    (hb : Body s₀ body) : Plans s₀ (s.command kind f body (State.answer kind f)) :=
  h.handOver fun ht => ht.decode kind f hb fun hu => hu.apart (State.reply_plan ..)

theorem query (h : Plans s₀ s) (topic per : Nat) (build : State → List (List Byte)) {f : Frame} :
    Plans s₀ (s.query topic per build f) := by
  refine h.handOver fun {t} ht => ?_
  dsimp only
  repeat' split
  case isFalse.isTrue => exact ht.apart rfl
  case isFalse.isFalse.isFalse => exact ht.apart (State.arrive_plan ..)
  all_goals exact ht

/-! ### The bodies of the commands -/

theorem armBody (f : Frame) : Body s₀ (armBody f) := by
  intro t h
  unfold Machine.armBody
  dsimp only
  split
  · split <;> exact h.apart rfl
  · split
    · exact h.arm ..
    · exact (h.arm ..).apart rfl

theorem cancelByTagBody (f : Frame) : Body s₀ (cancelByTagBody f) := by
  intro t h
  unfold Machine.cancelByTagBody
  split
  · exact h.apart rfl
  · exact h.removeEntries ..

theorem cancelByChannelBody (f : Frame) : Body s₀ (cancelByChannelBody f) := by
  intro t h
  unfold Machine.cancelByChannelBody
  split
  · exact h.apart rfl
  · split
    exacts [h.removeEntries .., h]

theorem flushBody (f : Frame) : Body s₀ (flushBody f) := by
  intro t h
  unfold Machine.flushBody
  split
  · exact h.apart rfl
  · exact h.removeEntries ..

theorem setgenBody (f : Frame) : Body s₀ (setgenBody f) := by
  intro t h
  obtain ⟨_, e⟩ := t.setgen_touches (parseSetgen f.payload)
  exact h.apart (by rw [Machine.setgenBody, e]; rfl)

theorem installBody (f : Frame) : Body s₀ (installBody f) := by
  intro t h
  unfold Machine.installBody
  split
  · exact h.apart rfl
  · exact h.install ..

theorem removeBody (f : Frame) : Body s₀ (removeBody f) := by
  intro t h
  unfold Machine.removeBody
  split
  · exact h.apart rfl
  · exact h.removeReaction ..

theorem releaseHoldBody (f : Frame) : Body s₀ (releaseHoldBody f) := by
  intro t h
  unfold Machine.releaseHoldBody
  split <;> exact h.apart rfl

theorem clearCountersBody (f : Frame) : Body s₀ (clearCountersBody f) := by
  intro t h
  unfold Machine.clearCountersBody
  split
  · exact h.clearCounters
  · exact h.apart rfl

theorem restartBody (f : Frame) : Body s₀ (restartBody f) := by
  intro t h
  unfold Machine.restartBody
  split <;> exact h.apart rfl

theorem restartConclude (h : Plans s₀ s) (was : Bool) (f : Frame) (c : ResultCode) (d : Word16) :
    Plans s₀ (restartConclude was f c d s) := by
  have replied : ∀ r, Plans s₀ (s.reply .control f c false d r) := fun _ => h.apart (State.reply_plan ..)
  obtain e | ⟨-, -, e⟩ | ⟨-, -, -, e⟩ := restartConclude_cases was f c d s <;> rw [e]
  · exact replied _
  · exact h.takeRestart
  · split
    exacts [replied _, (replied _).takeRestart]

theorem takeMarkFrame (h : Plans s₀ s) (f : Frame) : Plans s₀ (s.takeMarkFrame f) := by
  unfold State.takeMarkFrame
  repeat' split
  exacts [h.takeMark _, h.apart rfl, h]

theorem refuseTopic (h : Plans s₀ s) (f : Frame) : Plans s₀ (s.refuseTopic f) := by
  unfold State.refuseTopic
  repeat' split
  exacts [h, h.apart rfl, h.apart (State.reply_plan ..)]

/-! ### The rows -/

/-- A clean frame handed on by its row, with no step overtaken (R136). -/
theorem exec_frame (h : Plans s₀ s) {i : Instr} {f : Frame} {t : State} (hi : i.frame? = some f)
    (hd : ∀ k g o, i ≠ .duplicateNumberFrame k g (some o)) (hx : exec i s = .next t) : Plans s₀ t := by
  cases i <;> simp only [Instr.frame?, Option.some.injEq, reduceCtorEq] at hi <;> obtain rfl := hi.symm
  case duplicateNumberFrame k o =>
    cases o with
    | some o => exact absurd rfl (hd _ _ o)
    | none =>
      change execDuplicateNumberFrame k f none s = .next t at hx
      unfold execDuplicateNumberFrame at hx
      dsimp only at hx
      split at hx
      · cases hx
      · split at hx <;> cases hx
        exacts [h, h.duplicateFound]
  all_goals obtain ⟨-, rfl⟩ := whenFormed_eq_next.mp hx
  case helloReceived | stampReceived => exact h.handOver id
  case markReceived => exact (h.handOver (takeMarkFrame · f)).apart rfl
  case foreignAnswer => exact h.handOver fun ht => ht.apart rfl
  case commandForAnotherStation =>
    split
    exacts [h, h.handOver id]
  case arm => exact (h.command _ (armBody f)).apart rfl
  case cancelByTag => exact h.command _ (cancelByTagBody f)
  case cancelByChannel => exact h.command _ (cancelByChannelBody f)
  case setgen => exact h.command _ (setgenBody f)
  case reactInstall => exact h.command _ (installBody f)
  case reactRemove => exact h.command _ (removeBody f)
  case releaseHold => exact h.command _ (releaseHoldBody f)
  case clearCounters => exact h.command _ (clearCountersBody f)
  case flushSchedule => exact h.command _ (flushBody f)
  case restart => exact h.handOver fun ht => ht.decode _ f (restartBody f) fun hu => hu.restartConclude ..
  case queryUnknownTopic => exact h.handOver (refuseTopic · f)
  all_goals exact h.query _ _ _

theorem deliver (h : Plans s₀ s) {kind : FrameKind} {f : Frame} {t : State} (hx : s.deliver kind f = .next t) :
    Plans s₀ t := by
  obtain ⟨hf, hd⟩ := rowOf_frame? s.settings.station kind f
  exact h.exec_frame hf hd (State.deliver_eq_exec_rowOf .. ▸ hx)

theorem lineGoesQuiet {cells : List Bool} {more first : Bool} {t : State}
    (hx : execLineGoesQuiet cells more first s = .next t) : Plans s t := by
  unfold execLineGoesQuiet at hx
  split at hx
  · cases hx
    exact start
  · split at hx
    · cases hx
      exact start.apart rfl
    · obtain ⟨n, e, -⟩ | ⟨kind, f, u, v, -, -, hu, ⟨-, hd, e⟩ | ⟨-, hd, e⟩⟩ := State.endStretch_cases cells more first s
      all_goals
        rw [e] at hx
        cases hx
      · exact start.apart rfl
      · have delivered : Plans s v := deliver (start.apart (by rw [hu]; rfl)) hd
        exact delivered.apart rfl
      · have quiet : Plans s u.beginQuiet := start.apart (by rw [hu]; rfl)
        exact quiet.deliver hd

theorem collision {t : State} (hx : execCollision s = .next t) : Plans s t := by
  cases hx
  split
  · split
    · exact start.apart rfl
    · rename_i f _
      split
      · have gone : Plans s s.giveUp := start.apart rfl
        change Plans s (if f.restartReply then s.giveUp.takeRestart else s.giveUp)
        split
        exacts [gone.takeRestart, gone]
      · exact start.apart rfl
  · exact start

theorem ownFrameCleanEnd {t : State} (hx : execOwnFrameCleanEnd s = .next t) : Plans s t := by
  cases hx
  have finished : Plans s s.finishFrame := start.apart rfl
  repeat' split
  exacts [finished.takeRestart, finished, start]

theorem configReadEnd {t : State} (hx : execConfigReadEnd s = .next t) : Plans s t := by
  cases hx
  repeat' split
  exacts [start, start.apart (s.acceptImage_plan _), start.apart rfl]

/-- A command that hands on no frame, and is neither a reset nor a settle point. -/
theorem exec_event {i : Instr} {t : State} (hi : i.frame? = none) (hr : i ≠ .powerOn ∧ i ≠ .resetNAsserted)
    (ho : ∀ order, i ≠ .settlePoint order) (hx : exec i s = .next t) : Plans s t := by
  cases i <;> simp only [Instr.frame?, reduceCtorEq] at hi
  case powerOn => exact absurd rfl hr.1
  case resetNAsserted => exact absurd rfl hr.2
  case settlePoint order => exact absurd rfl (ho order)
  case configReadEnd => exact configReadEnd hx
  case captureEdge => exact captureEdge hx
  case lineGoesQuiet => exact lineGoesQuiet hx
  case collision => exact collision hx
  case ownFrameCleanEnd => exact ownFrameCleanEnd hx
  case resetNReleased =>
    obtain ⟨-, rfl⟩ := whenFormed_eq_next.mp hx
    split <;> exact start.apart rfl
  all_goals cases hx
  case entryDue => exact start.fireReached.apart rfl
  all_goals
    repeat' split
    all_goals exact start.apart rfl

end Plans

/-- What a step that may be overtaken does to the schedule and the reaction table: a settle point, or a chain of their own
operations. -/
abbrev State.PlansOrSettles (s t : State) : Prop :=
  Plans s t ∨ ∃ order, SettleAct.isOrder order = true ∧ t = s.settle order

theorem execSettlePoint_plans {order : List SettleAct} {s t : State} (hx : execSettlePoint order s = .next t) :
    s.PlansOrSettles t := by
  obtain ⟨hw, rfl⟩ := whenFormed_eq_next.mp hx
  split
  exacts [.inr ⟨order, hw, rfl⟩, .inl .start]

theorem State.takeOvertaken_plans {o : OvertakenStep} {s t : State} (hx : s.takeOvertaken o = .next t) :
    s.PlansOrSettles t := by
  cases o with
  | entryDue =>
    cases hx
    exact .inl (Plans.start.fireReached.apart rfl)
  | settlePoint order => exact execSettlePoint_plans hx
  | captureEdge => exact .inl (.captureEdge hx)
  | delivered kind f =>
    unfold State.takeOvertaken at hx
    dsimp only at hx
    split at hx <;> rename_i hf
    · cases hx
      exact .inl Plans.start.duplicateFound
    · refine .inl (Plans.start.deliver (kind := kind) (f := f) ?_)
      rwa [State.deliver, if_neg hf]

/-- What any command does to the schedule and the reaction table: a reset, a settle point, or a chain of their own
operations; or, for a duplicate that overtakes a step, that step and then the duplicate (R126, R158, R176). -/
theorem exec_plans {i : Instr} {s t : State} (hx : exec i s = .next t) :
    t = s.initial ∨ s.PlansOrSettles t ∨
    ∃ (shut : Option Nat) (u : State), State.PlansOrSettles { s with queueShutFrom := shut } u ∧
      t = State.duplicateFound { u with queueShutFrom := none } := by
  by_cases hr : i = .powerOn ∨ i = .resetNAsserted
  · left
    obtain rfl | rfl := hr <;> cases hx <;> rfl
  · right
    cases hf : i.frame? with
    | none =>
      by_cases ho : ∃ order, i = .settlePoint order
      · obtain ⟨order, rfl⟩ := ho
        exact .inl (execSettlePoint_plans hx)
      · exact .inl (.inl (.exec_event hf (not_or.mp hr) (not_exists.mp ho) hx))
    | some f =>
      by_cases hd : ∃ k g o, i = .duplicateNumberFrame k g (some o)
      · obtain ⟨k, g, o, rfl⟩ := hd
        have hw : (Instr.duplicateNumberFrame k g (some o)).wellFormed = true := by
          by_contra h
          rw [Bool.not_eq_true] at h
          simp [exec, execDuplicateNumberFrame, h] at hx
        obtain ⟨-, e⟩ | ⟨-, h', -⟩ | ⟨-, o', u, ho', hu, e⟩ := execDuplicateNumberFrame_cases s hw
        · cases e.symm.trans hx
          exact .inl (.inl .start)
        · cases h'
        · cases ho'
          cases e.symm.trans hx
          exact .inr ⟨_, u, State.takeOvertaken_plans hu, rfl⟩
      · exact .inl (.inl (Plans.start.exec_frame hf (fun k g o h => hd ⟨k, g, o, h⟩) hx))

end Sys2Proof.Machine
end

section
/-! Every step keeps the schedule's law and the templates' law (R25, R26, R27, R43, R97). -/

namespace Sys2Proof.Machine

/-! ### The entries that are armed -/

/-- An entry that may be armed: reached just now or ahead by at most the reach limit, its repeat in range (R25, R27). -/
abbrev State.MayArm (s : State) (e : Entry) : Prop :=
  (0 ≤ e.place s.lineTime ∧ e.place s.lineTime ≤ (reachLimit : Int)) ∧ ∀ r ∈ e.repetition, r.inBounds

/-- A due of the present line time stands at 0. -/
theorem Entry.place_self {now : Time} {e : Entry} (h : e.due = now) : e.place now = 0 := by
  rw [Entry.place, h, signedDiff, sub_self]
  rfl

/-- A repeat that passes the check of R31 is in range as the entry or the template holds it. -/
theorem repetitionOf_inBounds {n : Option (Nat × Nat)} (h : repeatValid n = true) :
    ∀ r ∈ repetitionOf n, r.inBounds := by
  intro r hr
  cases n with
  | none => cases hr
  | some v =>
    obtain ⟨interval, count⟩ := v
    cases hr
    simp only [repeatValid, inRange, Bool.and_eq_true, decide_eq_true_eq] at h
    refine ⟨h.1.1, h.1.2, ?_⟩
    dsimp only
    split <;> simp [*]

/-- A due that is not reached and not beyond the horizon may be armed (R32, R107). -/
theorem State.place_within_horizon {s : State} {e : Entry} (h : ¬horizon < s.aheadBy e.due) :
    0 ≤ e.place s.lineTime ∧ e.place s.lineTime ≤ (reachLimit : Int) := by
  have hf : forward s.lineTime e.due ≤ reachLimit := (Nat.not_lt.mp h).trans (by decide)
  rw [Entry.place_of_inReach hf]
  exact ⟨Int.natCast_nonneg _, Int.ofNat_le.mpr hf⟩

theorem State.place_now {s : State} {e : Entry} (h : e.due = s.lineTime) :
    0 ≤ e.place s.lineTime ∧ e.place s.lineTime ≤ (reachLimit : Int) := by
  rw [Entry.place_self h]
  exact ⟨le_rfl, by decide⟩

namespace State.ScheduleLaw

variable {s : State} {e : Entry}

theorem removeEntries (h : s.ScheduleLaw) (gone : Entry → Bool) (o : NoticeOutcome) :
    (s.removeEntries gone o).ScheduleLaw := by
  obtain ⟨_, _, _, e⟩ := s.removeEntries_touches gone o
  exact h.filter (fun e => !gone e) (by rw [e]) (by rw [e]; rfl)

/-- A new entry is armed where there is room (R35). -/
theorem armEntry_new (h : s.ScheduleLaw) (hnew : ¬s.holdsEntry e.origin e.tag = true)
    (hroom : ¬scheduleLimit ≤ s.schedule.length) (ha : s.MayArm e) : (s.armEntry e).ScheduleLaw :=
  (h.insert (Nat.not_le.mp hroom) (by simpa using hnew) ha.1 ha.2).armEntry

/-- An entry is armed in the place of the one of its origin and tag (R34). -/
theorem armEntry_replacing (h : s.ScheduleLaw) (held : s.holdsEntry e.origin e.tag = true) (ha : s.MayArm e) :
    ((s.replaceEntry e.origin e.tag).armEntry e).ScheduleLaw := by
  have hlaw : (s.replaceEntry e.origin e.tag).ScheduleLaw := h.removeEntries ..
  obtain ⟨_, _, _, he⟩ := s.removeEntries_touches (·.named e.origin e.tag) .replaced
  have hs : (s.replaceEntry e.origin e.tag).schedule = s.schedule.filter fun x => !x.named e.origin e.tag :=
    congrArg State.schedule he
  have ht : (s.replaceEntry e.origin e.tag).lineTime = s.lineTime := by
    rw [State.replaceEntry, he]
    rfl
  obtain ⟨x, hx, hn⟩ := List.any_eq_true.mp held
  refine hlaw.armEntry_new ?_ ?_ (by rwa [State.MayArm, ht])
  · simp [State.holdsEntry, hs]
  · have hlt : (s.schedule.filter fun x => !x.named e.origin e.tag).length < s.schedule.length :=
      List.length_filter_lt_length_iff_exists.mpr ⟨x, hx, by simp [hn]⟩
    have := h.few
    rw [hs]
    omega

/-- The checks of R29 let an entry be armed only where the law allows it. -/
theorem arm (h : s.ScheduleLaw) (n : Nat) (r : ArmRequest) : (s.arm n r).1.ScheduleLaw := by
  unfold State.arm
  split
  · exact h
  rename_i c _
  split <;> rename_i hv
  · exact h
  split
  · exact h
  split
  · exact h
  split <;> rename_i hz
  · exact h
  have ha : s.MayArm (r.entry n c (s.armDue r.due)) := by
    refine ⟨?_, repetitionOf_inBounds (Bool.and_eq_true_iff.mp (by simpa using hv)).2⟩
    by_cases hd : s.lineReached r.due = true
    · exact s.place_now (if_pos hd)
    · refine s.place_within_horizon ?_
      change ¬horizon < s.aheadBy (s.armDue r.due)
      rw [State.armDue, if_neg hd]
      simpa [hd] using hz
  unfold State.armChecked
  split <;> rename_i hheld
  · exact h.armEntry_replacing hheld ha
  · split <;> rename_i hroom
    · exact h
    · exact h.armEntry_new hheld hroom ha

/-- The tests of a match let a template's entry be armed only where the law allows it (R104 to R109). -/
theorem runMatch (h : s.ScheduleLaw) (m : Mark) {r : Reaction} (i : Fin 24)
    (hr : ∀ n ∈ r.repetition, n.inBounds) : (s.runMatch m r i).1.ScheduleLaw := by
  have armed : ∀ due, s.MayArm (r.entry s.settings.station i due) → (s.armReaction r i due).1.ScheduleLaw :=
    fun due ha => by
      unfold State.armReaction
      dsimp only
      split <;> rename_i hheld
      · split
        · exact h.armEntry_replacing (e := r.entry s.settings.station i due) hheld ha
        · exact h
      · split <;> rename_i hroom
        · exact h
        · exact h.armEntry_new hheld hroom ha
  unfold State.runMatch
  dsimp only
  split
  · exact h
  split
  · exact h
  split
  · split
    · exact armed _ ⟨s.place_now rfl, hr⟩
    · exact h
  · split <;> rename_i hz
    · exact h
    · exact armed _ ⟨s.place_within_horizon hz, hr⟩

end State.ScheduleLaw

/-! ### The templates -/

/-- A template written in a slot keeps the law if it meets it. -/
theorem State.TemplateLaw.set {s t : State} (h : s.TemplateLaw) {i : Fin 24} {v : Option Reaction}
    (ht : t.slots = s.slots.set i v) (hv : ∀ r ∈ v, r.delay ≤ horizon ∧ ∀ n ∈ r.repetition, n.inBounds) :
    t.TemplateLaw := by
  intro j r hr
  rw [ht] at hr
  by_cases hj : i = j
  · subst hj
    exact hv r (by simpa using hr)
  · refine h j r ?_
    rwa [Fin.getElem_fin, Vector.getElem_set_ne _ _ (fun e => hj (Fin.ext e))] at hr

/-- A template that passes check 5 of R99 meets the law. -/
theorem InstallRequest.reaction_bounds {r : InstallRequest} {own n : Nat} {c : Fin 8} {v : Reaction}
    (h : r.reaction own n c = some v) : v.delay ≤ horizon ∧ ∀ n ∈ v.repetition, n.inBounds := by
  unfold InstallRequest.reaction at h
  split at h
  · split at h <;> rename_i hv
    · cases h
      simp only [Bool.and_eq_true, decide_eq_true_eq] at hv
      exact ⟨hv.2, repetitionOf_inBounds hv.1.2⟩
    · cases h
  · cases h

theorem State.TemplateLaw.install {s : State} (h : s.TemplateLaw) (n : Nat) (r : InstallRequest) :
    (s.install n r).1.TemplateLaw := by
  unfold State.install
  split
  · dsimp only
    split
    · exact h
    · split
      · exact h
      · rename_i hr
        split
        · exact h
        · refine h.set (t := s.setSlot _ _) rfl fun v hv => ?_
          cases hv
          exact InstallRequest.reaction_bounds hr
  · exact h

theorem State.TemplateLaw.removeReaction {s : State} (h : s.TemplateLaw) (n : Nat) :
    (s.removeReaction n).1.TemplateLaw := by
  unfold State.removeReaction
  split
  · dsimp only
    split
    · exact h.set (t := s.setSlot _ none) rfl fun r hr => by cases hr
    · exact h
  · exact h

/-- A CLEAR_COUNTERS leaves each template but its hit count (R173). -/
theorem State.clearCounters_slot (s : State) (i : Fin 24) :
    s.clearCounters.slots[i] = s.slots[i].map fun r => { r with hits := 0 } := by simp [State.clearCounters]

/-! ### The step -/

/-- The laws of the schedule and of the templates, which a step keeps jointly. -/
abbrev State.PlanLaws (s : State) : Prop := s.ScheduleLaw ∧ s.TemplateLaw

theorem State.PlanLaws.congr {s t : State} (h : s.PlanLaws) (e : t.plan = s.plan) : t.PlanLaws := by
  obtain ⟨hs, hr, hn⟩ : t.schedule = s.schedule ∧ t.slots = s.slots ∧ t.lineTime = s.lineTime := by
    simpa only [State.plan, Prod.mk.injEq] using e
  exact ⟨h.1.congr hs hn, fun i r hr' => h.2 i r (hr ▸ hr')⟩

/-- Every operation of the schedule and of the reaction table keeps their laws. -/
theorem Plans.keeps_planLaws {s₀ s : State} (h : Plans s₀ s) (hl : s₀.PlanLaws) : s.PlanLaws := by
  induction h with
  | start => exact hl
  | apart h e ih => exact ih.congr e
  | clear h hs hr ih => exact ⟨.of_empty hs, fun i r hr' => ih.2 i r (hr ▸ hr')⟩
  | @fireReached u h ih =>
    obtain ⟨_, _, _, _, _, e⟩ := u.fireReached_touches
    exact ⟨ih.1.fireReached, by rw [e]; exact ih.2⟩
  | @removeEntries u h gone o ih =>
    obtain ⟨_, _, _, e⟩ := u.removeEntries_touches gone o
    exact ⟨ih.1.removeEntries gone o, by rw [e]; exact ih.2⟩
  | @arm u h n r ih =>
    obtain ⟨_, _, _, _, _, e⟩ := u.arm_touches n r
    exact ⟨ih.1.arm n r, by rw [e]; exact ih.2⟩
  | @matchTaken u h m r i hr ih =>
    have hv := ih.2 i r hr
    refine ⟨(ih.1.runMatch m i hv.2).congr (t := u.matchTaken m r i) rfl rfl,
      ih.2.set (t := u.matchTaken m r i) (i := i) rfl fun v hv' => ?_⟩
    cases hv'
    exact hv
  | @install u h n r ih =>
    obtain ⟨_, e⟩ := u.install_touches n r
    exact ⟨by rw [e]; exact ih.1, ih.2.install n r⟩
  | @removeReaction u h n ih =>
    obtain ⟨_, e⟩ := u.removeReaction_touches n
    exact ⟨by rw [e]; exact ih.1, ih.2.removeReaction n⟩
  | @clearCounters u h ih =>
    refine ⟨ih.1, fun i r hr => ?_⟩
    rw [State.clearCounters_slot] at hr
    obtain ⟨v, hv, rfl⟩ := Option.map_eq_some_iff.mp hr
    exact ih.2 i v hv

theorem State.PlansOrSettles.keeps_planLaws {s t : State} (h : s.PlansOrSettles t) (hl : s.PlanLaws) : t.PlanLaws := by
  obtain hp | ⟨order, hw, rfl⟩ := h
  · exact hp.keeps_planLaws hl
  · obtain ⟨_, _, _, _, _, _, _, _, _, _, _, _, e⟩ := s.settle_touches order
    exact ⟨hl.1.settle hw, by rw [e]; exact hl.2⟩

theorem exec_keeps_planLaws {i : Instr} {s t : State} (hx : exec i s = .next t) (h : s.PlanLaws) : t.PlanLaws := by
  obtain rfl | hp | ⟨shut, u, hp, rfl⟩ := exec_plans hx
  · exact ⟨.of_empty rfl, fun i r hr => by simp [State.initial, State.reset] at hr⟩
  · exact hp.keeps_planLaws h
  · have hu : u.PlanLaws := hp.keeps_planLaws (h.congr rfl)
    exact Plans.start.duplicateFound.keeps_planLaws (hu.congr rfl)

/-- Settles O20: each operation of the schedule keeps its law, and a tick passes only when no entry is reached. -/
theorem stepsKeepScheduleLaw : Obligations.StepsKeepScheduleLaw := by
  intro s t hs hr hx
  unfold step at hx
  split at hx
  · exact exec_keeps_planLaws hx ⟨hs, hr⟩
  · split at hx <;> rename_i hn
    · exact exec_keeps_planLaws hx ⟨hs, hr⟩
    · cases hx
      refine ⟨hs.tick hn, ?_⟩
      obtain ⟨_, _, _, _, e, -, -⟩ := s.tick_touches
      rw [e]
      exact hr

end Sys2Proof.Machine
end

section
/-! The repeats of a firing, and the firing of the reached entries (R37, R39 to R42). -/

namespace Sys2Proof.Machine

/-! ### The skipping loop (R41) -/

theorem later_later (t : Time) (m n : Nat) : later (later t m) n = later t (m + n) := by
  rw [later, later, later, BitVec.ofNat_add, add_assoc]

/-- Past a reached due, the moments up to the present are reached, and those of the next interval are ahead (R41). -/
theorem isReached_later {now due : Time} (hr : isReached now due = true) {m : Nat}
    (hm : m ≤ ticksSince now due + 50000000) : isReached now (later due m) = true ↔ m ≤ ticksSince now due := by
  have hl : (later due m).toNat = (due.toNat + m) % 4294967296 := by simp [later, BitVec.toNat_add]
  rw [isReached_iff, forward_eq] at hr ⊢
  rw [ticksSince, forward_eq] at hm ⊢
  rw [hl]
  have := now.isLt
  have := due.isLt
  omega

/-- The loop of R41 skips the dues reached, `n` of them, or as many as there are firings left if these are fewer. -/
theorem skipRepeats_eq {now : Time} {interval n : Nat} {fuel : Nat} {due : Time} {left : Option Nat}
    (hr : ∀ k < n, isReached now (later due (k * interval)) = true)
    (hn : isReached now (later due (n * interval)) = false) (hf : n < fuel) :
    skipRepeats now interval fuel due left =
      if left.any (fun c => decide (c ≤ n)) then (none, left.getD 0)
      else (some (later due (n * interval), left.map (· - n)), n) := by
  have hz : later due 0 = due := add_zero due
  induction n generalizing fuel due left with
  | zero =>
    obtain ⟨f, rfl⟩ := Nat.exists_eq_add_of_lt hf
    rw [Nat.zero_mul, hz] at hn ⊢
    unfold skipRepeats
    rcases left with - | - | c <;> simp [hn]
  | succ n ih =>
    obtain ⟨f, rfl⟩ : ∃ f, fuel = f + 1 := ⟨fuel - 1, by omega⟩
    have h0 : isReached now due = true := by simpa [hz] using hr 0 (Nat.succ_pos n)
    have hk : ∀ k, later (later due interval) (k * interval) = later due ((k + 1) * interval) := fun k => by
      rw [later_later, Nat.succ_mul, Nat.add_comm]
    have hrest := ih (fuel := f) (due := later due interval) (left := left.map (· - 1))
      (fun k hk' => hk k ▸ hr (k + 1) (Nat.succ_lt_succ hk')) (hk n ▸ hn) (Nat.lt_of_succ_lt_succ hf) (add_zero _)
    rw [hk] at hrest
    unfold skipRepeats
    rw [hrest]
    rcases left with - | - | c
    · simp [h0]
    · simp
    · by_cases hc : c ≤ n <;> simp [h0, hc]

/-- Settles O13: both find the first due ahead, and both stop where the firings left do. -/
theorem repeatSkipsAsTheLoop : Obligations.RepeatSkipsAsTheLoop := by
  intro now e r fuel he hb hr hf
  obtain ⟨h1, h2, h3⟩ := hb
  have hdiv := Nat.div_add_mod (ticksSince now e.due) r.interval
  have hmod := Nat.mod_lt (ticksSince now e.due) (show 0 < r.interval by omega)
  rw [Nat.mul_comm] at hdiv
  have hk : ∀ k, later (later e.due r.interval) (k * r.interval) = later e.due ((k + 1) * r.interval) := fun k => by
    rw [later_later, Nat.succ_mul, Nat.add_comm]
  have hreach : ∀ k ≤ ticksSince now e.due / r.interval,
      (isReached now (later e.due ((k + 1) * r.interval)) = true ↔ (k + 1) * r.interval ≤ ticksSince now e.due) :=
    fun k hk' => isReached_later hr (by
      have := Nat.mul_le_mul_right r.interval hk'
      unfold horizon at h2
      rw [Nat.succ_mul]
      omega)
  have hpast : ∀ k < ticksSince now e.due / r.interval,
      isReached now (later (later e.due r.interval) (k * r.interval)) = true := fun k hk' => by
    rw [hk, hreach k hk'.le]
    have : (k + 1) * r.interval ≤ _ := Nat.mul_le_mul_right r.interval hk'
    omega
  have hahead : isReached now
      (later (later e.due r.interval) (ticksSince now e.due / r.interval * r.interval)) = false := by
    rw [hk, ← Bool.not_eq_true, hreach _ le_rfl, Nat.succ_mul]
    omega
  rw [skipRepeats_eq hpast hahead (by omega), hk]
  obtain ⟨interval, remaining⟩ := r
  unfold Entry.afterFiring
  rw [he]
  rcases remaining with - | c
  · simp
  · dsimp only
    by_cases hc : c - 1 ≤ ticksSince now e.due / interval <;> simp [hc]

/-! ### ENTRY_DUE (R37, R39) -/

/-- Settles O16: the fold is the model's own; a firing's repeat is inserted ahead, and nothing else is touched. -/
theorem entryDueTakesReachedEntriesInOrder : Obligations.EntryDueTakesReachedEntriesInOrder := by
  intro s h
  refine ⟨_, rfl, rfl, h.not_reached_fireReached, ?_⟩
  obtain ⟨_, _, _, _, _, e⟩ := s.fireReached_touches
  simp [State.KeepsControl, State.KeepsTime, State.KeepsCaptures, State.KeepsPeers, e]

/-! ### One firing (R39 to R42) -/

/-- An entry fires where it requires no lock, or has it (R39). -/
theorem State.fire_of_lock {e : Entry} {s : State} (h : e.lockRequired = false ∨ s.inLock = true) :
    s.fire e =
      State.afterFiring { e with heldAtLast := s.firingHeld e.channel e.action }
        (State.takeAction e.channel e.action e.param
          { s with counters := { s.counters with fired := bump s.counters.fired } }) := by
  rw [State.fire, if_neg (by obtain h | h := h <;> simp [h])]

/-- An entry that requires lock is dropped without it (R39). -/
theorem State.fire_of_no_lock {e : Entry} {s : State} (h : e.lockRequired = true) (hl : s.inLock = false) :
    s.fire e = s.drop e := by rw [State.fire, if_pos (by simp [h, hl])]

/-- What follows a firing, the repeat's next due and the repeats skipped once found (R41, R42). -/
theorem State.afterFiring_eq {e : Entry} {s : State} {next : Option Entry} {skipped : Nat}
    (h : e.afterFiring s.lineTime = (next, skipped)) :
    s.afterFiring e =
      next.elim (State.spent e) State.insert
        { s with counters := { s.counters with repeatsSkipped := bumpBy skipped s.counters.repeatsSkipped } } := by
  unfold State.afterFiring
  dsimp only
  rw [h]
  cases next <;> rfl

/-- ENTRY_DUE with one entry reached fires that one (R37). -/
theorem State.fireReached_single {s : State} {e : Entry} {rest : List Entry} (hs : s.schedule = e :: rest)
    (hr : s.lineReached e.due = true) (hrest : ∀ x ∈ rest, s.lineReached x.due = false) :
    s.fireReached = State.fire e { s with schedule := rest } := by
  have h1 : s.schedule.filter (fun x => s.lineReached x.due) = [e] := by simpa [hs, hr] using hrest
  have h2 : s.schedule.filter (fun x => !s.lineReached x.due) = rest := by simpa [hs, hr] using hrest
  rw [State.fireReached, h1, h2]
  rfl

/-- Settles O17: the one reached entry is dropped, or fires and is held at the due the loop of R41 finds. -/
theorem entryFiresOrDrops : Obligations.EntryFiresOrDrops := by
  intro s fired e rest held hs hr hrest hheld hfired
  have hdue : exec .entryDue s = .next (State.followPairs (State.fire e { s with schedule := rest })) :=
    congrArg (fun t => Host.Outcome.next (State.followPairs t)) (State.fireReached_single hs hr hrest)
  obtain ⟨hsch, hnow, -, -, -, hskip⟩ : fired.schedule = rest ∧ fired.lineTime = s.lineTime ∧ _ ∧ _ ∧ _ ∧
      fired.counters.repeatsSkipped = s.counters.repeatsSkipped := hfired ▸ State.ledger_eq
    (State.takeAction_ledger e.channel e.action e.param
      { s with schedule := rest, counters := { s.counters with fired := bump s.counters.fired } })
  refine ⟨fun hl => ?_, fun hq hl => ?_⟩
  · have hfire : State.fire e { s with schedule := rest } = fired.afterFiring { e with heldAtLast := held } := by
      rw [hfired, hheld]
      exact State.fire_of_lock (s := { s with schedule := rest }) hl
    rw [hdue, hfire]
    refine ⟨fun hn => ?_, fun r fuel skipped next counted hrep hb hf hloop hcounted => ?_⟩
    · have ha : Entry.afterFiring fired.lineTime { e with heldAtLast := held } = (none, 0) := by
        simp [Entry.afterFiring, hn]
      rw [State.afterFiring_eq ha, bumpBy_zero]
      rfl
    · have ha := repeatSkipsAsTheLoop s.lineTime { e with heldAtLast := held } r fuel hrep hb hr hf
      rw [hloop, ← hnow] at ha
      rw [State.afterFiring_eq ha, hskip, ← hcounted]
      refine ⟨fun hn => ?_, fun due left hn => ?_⟩
      · rw [hn]
        rfl
      · have hplace : counted.schedule = rest ∧ counted.lineTime = s.lineTime := by
          rw [hcounted]
          exact ⟨hsch, hnow⟩
        rw [hn, ← hplace.1, ← hplace.2]
        rfl
  · rw [hdue, State.fire_of_no_lock (s := { s with schedule := rest }) hq hl]
    rfl

end Sys2Proof.Machine
end

section
/-! SUPPORT. Arming an entry, ahead or reached, and the removal of the one of its origin and tag (R27, R34, R35, R37); a
command that is taken and carried out (R161). -/

namespace Sys2Proof.Machine

/-! ### The place of an entry (R27) -/

/-- An entry inserted parts a schedule in order: behind every entry of an earlier or the same due, ahead of the rest. -/
theorem insertEntry_split {now : Time} (e : Entry) {held : List Entry}
    (h : held.Pairwise fun a b => a.place now ≤ b.place now) :
    ∃ a b, held = a ++ b ∧ insertEntry now e held = a ++ e :: b ∧ (∀ x ∈ a, x.place now ≤ e.place now) ∧
      ∀ x ∈ b, e.place now < x.place now := by
  induction held with
  | nil => exact ⟨[], [], rfl, rfl, List.forall_mem_nil _, List.forall_mem_nil _⟩
  | cons y rest ih =>
    obtain ⟨hy, hr⟩ := List.pairwise_cons.mp h
    by_cases hle : y.place now ≤ e.place now
    · obtain ⟨a, b, rfl, hi, ha, hb⟩ := ih hr
      refine ⟨y :: a, b, rfl, by rw [insertEntry, if_pos hle, hi]; rfl, fun x hx => ?_, hb⟩
      obtain rfl | hx := List.mem_cons.mp hx
      exacts [hle, ha x hx]
    · refine ⟨[], y :: rest, rfl, by rw [insertEntry, if_neg hle]; rfl, List.forall_mem_nil _, fun x hx => ?_⟩
      obtain rfl | hx := List.mem_cons.mp hx
      · exact Int.not_le.mp hle
      · have := hy x hx
        omega

/-! ### Arming (R35, R37) -/

theorem State.armEntry_of_ahead {s : State} {e : Entry} (h : s.lineReached e.due = false) :
    s.armEntry e = s.insert e := by rw [State.armEntry, if_neg (by simp [h])]

/-- An entry armed at the present line time fires behind the entries held that are reached (R37, log entry 26). -/
theorem State.armEntry_of_reached {s : State} {e : Entry} (hd : e.due = s.lineTime)
    (hs : s.schedule.Pairwise fun a b => a.place s.lineTime ≤ b.place s.lineTime)
    (hp : ∀ x ∈ s.schedule, 0 ≤ x.place s.lineTime) :
    s.armEntry e =
      ((s.schedule.filter fun x => s.lineReached x.due) ++ [e]).foldl (fun t x => t.fire x)
        { s with schedule := s.schedule.filter fun x => !s.lineReached x.due } := by
  have hr : s.lineReached e.due = true := hd ▸ isReached_self _
  obtain ⟨a, b, hab, hi, -, hb⟩ := insertEntry_split e hs
  have hb' : ∀ x ∈ b, s.lineReached x.due = false := fun x hx => by
    by_contra hx'
    have h0 := hb x hx
    rw [Entry.place_self hd,
      Entry.place_self (Entry.place_eq_zero_of_reached (hp x (hab ▸ List.mem_append_right a hx)) ((Bool.not_eq_false _).mp hx'))]
      at h0
    omega
  have hin : (s.insert e).schedule = a ++ e :: b := hi
  have reached : (s.insert e).schedule.filter (fun x => s.lineReached x.due) =
      (s.schedule.filter fun x => s.lineReached x.due) ++ [e] := by
    have hnil : b.filter (fun x => s.lineReached x.due) = [] := by simpa using hb'
    rw [hin, hab, List.filter_append, List.filter_append, List.filter_cons_of_pos (by exact hr), hnil, List.append_nil]
  have ahead : (s.insert e).schedule.filter (fun x => !s.lineReached x.due) =
      s.schedule.filter fun x => !s.lineReached x.due := by
    rw [hin, hab, List.filter_append, List.filter_append, List.filter_cons_of_neg (by simp [hr])]
  rw [State.armEntry, if_pos hr]
  change ((s.insert e).schedule.filter fun x => s.lineReached x.due).foldl (fun t x => t.fire x)
    { s with schedule := (s.insert e).schedule.filter fun x => !s.lineReached x.due } = _
  rw [reached, ahead]

/-! ### Removing by origin and tag (R34, R44) -/

theorem Entry.named_iff {origin : Nat} {tag : Word16} {e : Entry} :
    e.named origin tag = true ↔ e.origin = origin ∧ e.tag = tag := by simp [Entry.named]

theorem Entry.named_eq_false_iff {origin : Nat} {tag : Word16} {e : Entry} :
    e.named origin tag = false ↔ ¬(e.origin = origin ∧ e.tag = tag) := by
  rw [← Entry.named_iff, Bool.not_eq_true]

section

variable {s : State} {origin : Nat} {tag : Word16} {a b : List Entry} {x : Entry}

/-- Of the entries held, the one named is removed, with its NOTICE. -/
theorem State.removeEntries_named (o : NoticeOutcome) (hs : s.schedule = a ++ x :: b)
    (hx : x.origin = origin ∧ x.tag = tag) (hab : ∀ y ∈ a ++ b, ¬(y.origin = origin ∧ y.tag = tag)) :
    s.removeEntries (·.named origin tag) o = State.notice x o { s with schedule := a ++ b } ∧
      s.removedCount (·.named origin tag) = 1 := by
  have hn : ∀ y ∈ a ++ b, y.named origin tag = false := fun y hy => Entry.named_eq_false_iff.mpr (hab y hy)
  have hx : x.named origin tag = true := Entry.named_iff.mpr hx
  have hperm : s.schedule.Perm (x :: (a ++ b)) := hs ▸ List.perm_middle
  have gone : s.schedule.filter (·.named origin tag) = [x] :=
    List.perm_singleton.mp ((hperm.filter _).trans (by
      rw [List.filter_cons_of_pos hx, List.filter_eq_nil_iff.mpr fun y hy => by simp [hn y hy]]))
  have kept : s.schedule.filter (fun y => !y.named origin tag) = a ++ b := by
    have hs' : ∀ l ⊆ a ++ b, l.filter (fun y => !y.named origin tag) = l := fun l hl =>
      List.filter_eq_self.mpr fun y hy => by simp [hn y (hl hy)]
    rw [hs, List.filter_append, List.filter_cons_of_neg (by simp [hx]), hs' a (List.subset_append_left a b),
      hs' b (List.subset_append_right a b)]
  refine ⟨?_, ?_⟩
  · rw [State.removeEntries, gone, kept]
    rfl
  · rw [State.removedCount, List.countP_eq_length_filter, gone]
    rfl

/-- With no entry named, a removal takes none. -/
theorem State.removeEntries_none (o : NoticeOutcome) (hs : ∀ y ∈ s.schedule, ¬(y.origin = origin ∧ y.tag = tag)) :
    s.removeEntries (·.named origin tag) o = s ∧ s.removedCount (·.named origin tag) = 0 := by
  have hn : ∀ y ∈ s.schedule, y.named origin tag = false := fun y hy => Entry.named_eq_false_iff.mpr (hs y hy)
  refine ⟨?_, List.countP_eq_zero.mpr fun y hy => by simp [hn y hy]⟩
  have gone : s.schedule.filter (·.named origin tag) = [] := List.filter_eq_nil_iff.mpr fun y hy => by simp [hn y hy]
  have kept : s.schedule.filter (fun y => !y.named origin tag) = s.schedule :=
    List.filter_eq_self.mpr fun y hy => by simp [hn y hy]
  rw [State.removeEntries, gone, kept]
  rfl

end

/-- No entry named is held (R26). -/
theorem State.holdsEntry_eq_false {s : State} {origin : Nat} {tag : Word16}
    (hs : ∀ y ∈ s.schedule, ¬(y.origin = origin ∧ y.tag = tag)) : s.holdsEntry origin tag = false :=
  List.any_eq_false.mpr fun y hy => by simp [Entry.named_eq_false_iff.mpr (hs y hy)]

/-- The one entry named is held, and it is replaced with outcome REPLACED (R34). -/
theorem State.replaceEntry_named {s : State} {origin : Nat} {tag : Word16} {a b : List Entry} {x : Entry}
    (hs : s.schedule = a ++ x :: b) (hx : x.origin = origin ∧ x.tag = tag)
    (hab : ∀ y ∈ a ++ b, ¬(y.origin = origin ∧ y.tag = tag)) :
    s.holdsEntry origin tag = true ∧
      s.replaceEntry origin tag = State.notice x .replaced { s with schedule := a ++ b } :=
  ⟨List.any_eq_true.mpr ⟨x, by simp [hs], Entry.named_iff.mpr hx⟩, (State.removeEntries_named .replaced hs hx hab).1⟩

/-- A state that has made way for an entry of this origin and tag: the one held, if any, is removed with outcome
REPLACED, and `held` are the others (R34). -/
def State.MakesWay (origin : Nat) (tag : Word16) (held : List Entry) (s u : State) : Prop :=
  held = s.schedule ∧ u = s ∨
    ∃ a b x, s.schedule = a ++ x :: b ∧ x.origin = origin ∧ x.tag = tag ∧ held = a ++ b ∧
      u = State.notice x .replaced { s with schedule := held }

section

variable {s u : State} {e : Entry} {held : List Entry}

/-- Way made, the other entries are held at the same line time. -/
theorem State.MakesWay.schedule_eq {origin : Nat} {tag : Word16} (h : s.MakesWay origin tag held u) :
    u.schedule = held ∧ u.lineTime = s.lineTime := by
  obtain ⟨rfl, rfl⟩ | ⟨a, b, x, -, -, -, -, rfl⟩ := h
  · exact ⟨rfl, rfl⟩
  · obtain ⟨_, _, _, e'⟩ := State.notice_touches x .replaced { s with schedule := held }
    rw [e']
    exact ⟨rfl, rfl⟩

/-- The others are some of the entries held before. -/
theorem State.MakesWay.sublist {origin : Nat} {tag : Word16} (h : s.MakesWay origin tag held u) :
    held.Sublist s.schedule := by
  obtain ⟨rfl, rfl⟩ | ⟨a, b, x, hs, -, -, rfl, -⟩ := h
  · exact .refl _
  · exact hs ▸ (List.sublist_cons_self x b).append_left a

/-- Way made, an entry ahead takes its place (R27, R35). -/
theorem State.MakesWay.armEntry_ahead {origin : Nat} {tag : Word16} (h : s.MakesWay origin tag held u)
    (hr : s.lineReached e.due = false) : u.armEntry e = { u with schedule := insertEntry s.lineTime e held } := by
  obtain ⟨hs, hl⟩ := h.schedule_eq
  rw [State.armEntry_of_ahead (by rwa [State.lineReached, hl]), State.insert, hs, hl]

/-- Way made, an entry due at the present line time fires behind the reached entries held (R37, log entry 26). -/
theorem State.MakesWay.armEntry_now {origin : Nat} {tag : Word16} (h : s.MakesWay origin tag held u)
    (hlaw : s.ScheduleLaw) (hd : e.due = s.lineTime) :
    u.armEntry e =
      ((held.filter fun x => s.lineReached x.due) ++ [e]).foldl (fun t x => t.fire x)
        { u with schedule := held.filter fun x => !s.lineReached x.due } := by
  obtain ⟨hs, hl⟩ := h.schedule_eq
  have hr : u.lineReached = s.lineReached := by
    funext t
    rw [State.lineReached, hl]
    rfl
  rw [State.armEntry_of_reached (hd.trans hl.symm), hs, hr]
  · rw [hs, hl]
    exact hlaw.sorted.sublist h.sublist
  · rw [hs, hl]
    exact fun x hx => (hlaw.placed x (h.sublist.subset hx)).1

end

/-! ### A command taken and carried out (R159 to R162) -/

/-- A command that is taken is carried out on the state its frame leaves, and concluded. -/
theorem State.Takes.command_eq {s t : State} {kind : CommandKind} {f : Frame}
    {body : State → State × ResultCode × Word16} {conclude : ResultCode → Word16 → State → State} {code : ResultCode}
    {detail : Word16} (h : s.Takes kind f) (hb : body (s.receive f) = (t, code, detail)) :
    s.command kind f body conclude = conclude code detail (t.writeRecord f.sender ⟨kind, f.sequence, code, detail⟩) := by
  obtain ⟨ha, hf, hd, hr⟩ := h
  rw [State.command, State.handOver, if_neg (by simp [ha]), if_neg hf, State.decode,
    if_neg (by simpa using hd), if_neg (by simpa using ha), State.repeatOf_receive, hr]
  dsimp only
  rw [State.execute, State.carryOut, hb]

end Sys2Proof.Machine
end

section
/-! The checks of an ARM and the tests of a match, in their order, and the entries they arm (R29 to R36, R103 to R109). -/

namespace Sys2Proof.Machine

/-! ### The checks of an ARM (R29 to R35) -/

/-- The checks of R30 on a channel that there is. -/
theorem State.checkChannel_of_lt (c : Fin 8) (a : Action) (s : State) :
    s.checkChannel c.val a =
      if s.isPairOdd c then .error .paired
      else if actionValid s.settings.channels[c].mode a then .ok c
      else .error .badAction := by
  rw [State.checkChannel, dif_pos c.isLt]

/-- The checks of R29 on a channel that there is: the first that fails refuses the ARM and leaves the state. -/
theorem State.arm_eq {origin : Nat} {r : ArmRequest} {s : State} {c : Fin 8} (hc : r.channel = c.val) :
    s.arm origin r =
      if s.isPairOdd c then (s, .paired)
      else if !actionValid s.settings.channels[c].mode r.action then (s, .badAction)
      else if !(paramValid r.action r.param && repeatValid r.repetition) then (s, .badParam)
      else if r.lock && !s.inLock then (s, .unsynced)
      else if s.lineReached r.due && !r.lateOk then (s, .late)
      else if !s.lineReached r.due && decide (horizon < s.aheadBy r.due) then (s, .tooFar)
      else s.armChecked (r.entry origin c (s.armDue r.due)) := by
  rw [State.arm, hc, State.checkChannel_of_lt]
  cases s.isPairOdd c
  · cases actionValid s.settings.channels[c].mode r.action <;> rfl
  · rfl

theorem State.arm_of_badChannel {origin : Nat} {r : ArmRequest} {s : State} (h : 8 ≤ r.channel) :
    s.arm origin r = (s, .badChannel) := by
  rw [State.arm, State.checkChannel, dif_neg (Nat.not_lt.mpr h)]

/-- The last checks of R29 by their result (R34, R35). -/
theorem State.armChecked_result (e : Entry) (s : State) :
    (s.armChecked e).2 =
      if s.holdsEntry e.origin e.tag then .replaced else if scheduleLimit ≤ s.schedule.length then .full else .ok := by
  rw [State.armChecked]
  repeat' split
  all_goals rfl

/-- The result of an ARM is that of the first check that fails (R29). -/
theorem State.arm_result {origin : Nat} {r : ArmRequest} {s : State} {c : Fin 8} (hc : r.channel = c.val) :
    (s.arm origin r).2 =
      if s.isPairOdd c then .paired
      else if !actionValid s.settings.channels[c].mode r.action then .badAction
      else if !(paramValid r.action r.param && repeatValid r.repetition) then .badParam
      else if r.lock && !s.inLock then .unsynced
      else if s.lineReached r.due && !r.lateOk then .late
      else if !s.lineReached r.due && decide (horizon < s.aheadBy r.due) then .tooFar
      else if s.holdsEntry origin r.tag then .replaced
      else if scheduleLimit ≤ s.schedule.length then .full
      else .ok := by
  simp only [State.arm_eq hc, apply_ite Prod.snd, State.armChecked_result]
  rfl

/-- An ARM that is refused leaves the state as it was (R29). -/
theorem State.arm_refused {origin : Nat} {r : ArmRequest} {s : State} (h1 : (s.arm origin r).2 ≠ .ok)
    (h2 : (s.arm origin r).2 ≠ .replaced) : (s.arm origin r).1 = s := by
  unfold State.arm State.armChecked at *
  repeat' split
  all_goals simp_all

/-- The sample of the ARM's frame has no part in its result (R29, R116). -/
theorem State.arm_receive_result (origin : Nat) (r : ArmRequest) (f : Frame) (s : State) :
    ((s.receive f).arm origin r).2 = (s.arm origin r).2 := by
  by_cases h : r.channel < 8
  · rw [State.arm_result (c := ⟨r.channel, h⟩) rfl, State.arm_result (c := ⟨r.channel, h⟩) rfl]
    rfl
  · rw [State.arm_of_badChannel (Nat.not_lt.mp h), State.arm_of_badChannel (Nat.not_lt.mp h)]

/-- Settles O14: the checks one after another, and the decoder's conclusion of the first that fails. -/
theorem armChecksInOrder : Obligations.ArmChecksInOrder := by
  intro origin r s
  refine ⟨State.arm_of_badChannel, fun c hc => State.arm_result hc, State.arm_refused, ?_⟩
  rintro f code hw ht hp rfl hcode h1 h2
  have hres : ((s.receive f).arm f.sender r).2 = code := (State.arm_receive_result ..).trans hcode
  have hsame : ((s.receive f).arm f.sender r).1 = s.receive f := State.arm_refused (hres ▸ h1) (hres ▸ h2)
  have hbody : armBody f (s.receive f) =
      ({ s.receive f with counters := { s.counters with armsRefused := bump s.counters.armsRefused } }, code,
        BitVec.ofNat 16 s.schedule.length) := by
    rw [armBody, hp]
    dsimp only
    rw [hsame, hres, if_neg (not_or.mpr ⟨h1, h2⟩)]
    rfl
  exact whenFormed_of_wellFormed hw (congrArg State.followPairs (ht.command_eq hbody))

/-! ### The entry an ARM arms (R33 to R35, R37) -/

/-- An ARM that passes the checks on its own fields comes to those on the schedule (R29). -/
theorem State.arm_of_passed {origin : Nat} {r : ArmRequest} {s : State} {c : Fin 8} (hc : r.channel = c.val)
    (hodd : s.isPairOdd c = false) (hact : actionValid s.settings.channels[c].mode r.action = true)
    (hparam : paramValid r.action r.param = true) (hrep : repeatValid r.repetition = true)
    (hlock : r.lock = true → s.inLock = true) (hlate : s.lineReached r.due = true → r.lateOk = true)
    (hzone : s.lineReached r.due = false → s.aheadBy r.due ≤ 50000000) :
    s.arm origin r = s.armChecked (r.entry origin c (s.armDue r.due)) := by
  have hl : (r.lock && !s.inLock) = false := by cases h : r.lock <;> simp_all
  have hlate' : (s.lineReached r.due && !r.lateOk) = false := by cases h : s.lineReached r.due <;> simp_all
  have hzone' : (!s.lineReached r.due && decide (horizon < s.aheadBy r.due)) = false := by
    cases h : s.lineReached r.due
    · exact decide_eq_false (Nat.not_lt.mpr (hzone h))
    · rfl
  rw [State.arm_eq hc, hodd, hact, hparam, hrep, hl, hlate', hzone']
  rfl

/-- The entry that way is made for is armed, with the result OK or REPLACED (R34, R35). -/
theorem State.armChecked_makingWay {s u : State} {e : Entry} {held : List Entry} {code : ResultCode}
    (hway : code = .ok ∧ held = s.schedule ∧ held.length < 64 ∧ u = s ∨
      code = .replaced ∧ ∃ a b x, s.schedule = a ++ x :: b ∧ x.origin = e.origin ∧ x.tag = e.tag ∧ held = a ++ b ∧
        u = State.notice x .replaced { s with schedule := held })
    (hn : ∀ x ∈ held, ¬(x.origin = e.origin ∧ x.tag = e.tag)) : s.armChecked e = (u.armEntry e, code) := by
  rw [State.armChecked]
  obtain ⟨rfl, rfl, hl, rfl⟩ | ⟨rfl, a, b, x, hs, ho, hg, rfl, rfl⟩ := hway
  · have hroom : ¬scheduleLimit ≤ u.schedule.length := Nat.not_le.mpr hl
    rw [if_neg (by simp [State.holdsEntry_eq_false hn]), if_neg hroom]
  · obtain ⟨hh, hr⟩ := State.replaceEntry_named hs ⟨ho, hg⟩ hn
    rw [if_pos hh, hr]

/-- An ARM that is taken and armed is concluded with its result and the occupancy (R165). -/
theorem State.Takes.exec_arm {s v : State} {f : Frame} {r : ArmRequest} {code : ResultCode} (ht : s.Takes .arm f)
    (hw : f.wellFormed .arm = true) (hp : parseArm f.payload = some r) (hcode : code = .ok ∨ code = .replaced)
    (hv : (s.receive f).arm f.sender r = (v, code)) :
    exec (.arm f) s = .next (State.conclude .arm f code (BitVec.ofNat 16 v.schedule.length) v).followPairs := by
  have hbody : armBody f (s.receive f) = (v, code, BitVec.ofNat 16 v.schedule.length) := by
    rw [armBody, hp]
    dsimp only
    rw [hv, if_pos hcode]
  exact whenFormed_of_wellFormed hw (congrArg State.followPairs (ht.command_eq hbody))

/-- Settles O15: the checks pass, way is made, and the entry is inserted, or fires where it is reached. -/
theorem armInsertsEntry : Obligations.ArmInsertsEntry := by
  refine ⟨fun now e held h => insertEntry_split e h, ?_⟩
  intro s u f r c held code hw ht hparse hc hodd hact hparam hrep hlock hn hway
  have way : (s.receive f).MakesWay f.sender r.tag held u := hway.imp (fun ⟨_, hs, _, hu⟩ => ⟨hs, hu⟩) And.right
  have armed : (s.lineReached r.due = true → r.lateOk = true) →
      (s.lineReached r.due = false → s.aheadBy r.due ≤ 50000000) →
      (s.receive f).arm f.sender r = (u.armEntry (r.entry f.sender c (s.armDue r.due)), code) := fun hlate hzone =>
    (State.arm_of_passed (s := s.receive f) hc hodd hact hparam hrep hlock hlate hzone).trans
      (State.armChecked_makingWay (s := s.receive f) hway hn)
  have concluded := fun v => ht.exec_arm (v := v) hw hparse (hway.imp And.left And.left)
  refine ⟨fun hd hz => ?_, fun hd hlate hlaw v hv => ?_⟩
  · have hdue : s.armDue r.due = r.due := if_neg (by simp [hd])
    have harm := armed (fun h => absurd h (by simp [hd])) fun _ => hz
    rw [hdue, way.armEntry_ahead (e := r.entry f.sender c r.due) hd] at harm
    rw [concluded _ harm, length_insertEntry]
    rfl
  · have hdue : s.armDue r.due = s.lineTime := if_pos hd
    refine concluded v ((armed (fun _ => hlate) fun h => absurd h (by simp [hd])).trans ?_)
    rw [hdue, way.armEntry_now (e := r.entry f.sender c s.lineTime) (hlaw.congr rfl rfl) rfl, hv]
    rfl

/-! ### The tests of a match (R104 to R109) -/

/-- A reaction arm, the retrigger policy as a choice (R36, R108, R109). -/
theorem State.armReaction_eq (r : Reaction) (i : Fin 24) (due : Time) (s : State) :
    s.armReaction r i due =
      if s.holdsEntry s.settings.station r.tag then
        (if r.retrigger = .keep then (s, .kept)
        else ((s.replaceEntry s.settings.station r.tag).armEntry (r.entry s.settings.station i due), .armed))
      else if scheduleLimit ≤ s.schedule.length then (s, .full)
      else (s.armEntry (r.entry s.settings.station i due), .armed) := by
  rw [State.armReaction]
  cases r.retrigger <;> rfl

/-- A reaction arm that is not answered ARMED leaves the state (R36). -/
theorem State.armReaction_refused {r : Reaction} {i : Fin 24} {due : Time} {s : State}
    (h : (s.armReaction r i due).2 ≠ .armed) : (s.armReaction r i due).1 = s := by
  rw [State.armReaction_eq] at h ⊢
  repeat' split at h
  all_goals simp_all

/-- A reaction arm answered ARMED arms the template's entry where way is made for it (R34, R36, R108). -/
theorem State.armReaction_armed {r : Reaction} {i : Fin 24} {due : Time} {s u : State} {held : List Entry}
    (h : (s.armReaction r i due).2 = .armed) (hway : s.MakesWay s.settings.station r.tag held u)
    (hn : ∀ x ∈ held, ¬(x.origin = s.settings.station ∧ x.tag = r.tag)) :
    (s.armReaction r i due).1 = u.armEntry (r.entry s.settings.station i due) := by
  rw [State.armReaction_eq] at h ⊢
  obtain ⟨rfl, rfl⟩ | ⟨a, b, x, hs, ho, hg, rfl, rfl⟩ := hway
  · rw [if_neg (by simp [State.holdsEntry_eq_false hn])] at h ⊢
    split at h
    · cases h
    · rw [if_neg ‹_›]
  · obtain ⟨hh, hr⟩ := State.replaceEntry_named hs ⟨ho, hg⟩ hn
    rw [if_pos hh, hr] at h ⊢
    split at h
    · cases h
    · rw [if_neg ‹_›]

/-- The due that a match arms: the capture time plus the delay, or the present where that is reached (R105, R106). -/
abbrev State.matchDue (m : Mark) (r : Reaction) (s : State) : Time :=
  if s.lineReached (later m.time r.delay) then s.lineTime else later m.time r.delay

/-- The tests of a match, in their order: the first that decides leaves the state (R104 to R107). -/
theorem State.runMatch_eq (m : Mark) (r : Reaction) (i : Fin 24) (s : State) :
    s.runMatch m r i =
      if r.gate.any (fun g => s.inputs[g.1].level != g.2) then (s, .gated)
      else if r.lockRequired && !(syncInLock m.sync && s.inLock) then (s, .unsynced)
      else if s.lineReached (later m.time r.delay) && r.latePolicy == .drop then (s, .late)
      else if !s.lineReached (later m.time r.delay) && decide (horizon < s.aheadBy (later m.time r.delay)) then
        (s, .tooFar)
      else s.armReaction r i (s.matchDue m r) := by
  rw [State.runMatch]
  refine if_congr Iff.rfl rfl (if_congr Iff.rfl rfl ?_)
  dsimp only
  cases hr : s.lineReached (later m.time r.delay)
  · simp [State.matchDue, hr]
  · cases r.latePolicy <;> simp [State.matchDue, hr]

/-- A match ends at a test, or hands the schedule the template's entry (R104 to R108). -/
theorem State.runMatch_cases (m : Mark) (r : Reaction) (i : Fin 24) (s : State) :
    (∃ o, o ≠ .armed ∧ s.runMatch m r i = (s, o)) ∨ s.runMatch m r i = s.armReaction r i (s.matchDue m r) := by
  rw [State.runMatch_eq]
  repeat' split
  case isFalse.isFalse.isFalse.isFalse => exact .inr rfl
  all_goals exact .inl ⟨_, by decide, rfl⟩

/-- Settles O36: the tests one after another; an ARMED outcome arms the template's entry where way is made for it. -/
theorem matchTestsInOrder : Obligations.MatchTestsInOrder := by
  intro s m r i
  refine ⟨?_, fun h => ?_, fun h u due e held hdue he hn hway => ?_⟩
  · rw [State.runMatch_eq]
    simp only [apply_ite Prod.snd, State.armReaction_eq]
    rfl
  · obtain ⟨o, -, e⟩ | e := s.runMatch_cases m r i <;> rw [e] at h ⊢
    exact State.armReaction_refused h
  · obtain ⟨o, ho, e'⟩ | e' := s.runMatch_cases m r i <;> rw [e'] at h ⊢
    · exact absurd h ho
    · have way : s.MakesWay s.settings.station r.tag held u := hway
      have hentry : r.entry s.settings.station i (s.matchDue m r) = e := by
        rw [he, hdue]
        rfl
      rw [State.armReaction_armed h way hn, hentry]
      refine ⟨fun hd => way.armEntry_ahead ?_, fun hd hlaw => way.armEntry_now hlaw ?_⟩
      · rw [he, if_neg (by simp [hd])]
        exact hd
      · rw [he, if_pos hd]

end Sys2Proof.Machine
end

section
/-! CANCEL and FLUSH_SCHEDULE, and what every command goes through before it is carried out (R44 to R46, R159 to R163). -/

namespace Sys2Proof.Machine

/-! ### CANCEL and FLUSH_SCHEDULE (R44 to R46) -/

/-- A removal by CANCEL, the entries it takes and its answer (R44, R45). -/
theorem cancelWhere_eq (gone : Entry → Bool) (s : State) :
    cancelWhere gone s =
      ((s.schedule.filter gone).foldl (fun t e => State.notice e .cancelled t)
          { s with schedule := s.schedule.filter fun e => !gone e },
        if s.schedule.any gone then .ok else .notFound, BitVec.ofNat 16 (s.schedule.countP gone)) := by
  have hnone : s.removedCount gone = 0 ↔ s.schedule.any gone = false := by
    rw [State.removedCount, List.countP_eq_zero, List.any_eq_false]
  rw [cancelWhere, if_congr hnone rfl rfl]
  cases s.schedule.any gone <;> rfl

/-- Settles O18: the one entry named is removed, or none is. -/
theorem cancelByTagRemoves : Obligations.CancelByTagRemoves := by
  intro s f origin tag hw h0 ht hlen ho hg h1 h30
  have hform : (Instr.cancelByTag f).wellFormed = true := by simp [Instr.wellFormed, hw, h0]
  have hparse : parseCancelByTag f.payload = some (origin, tag) := by
    rw [parseCancelByTag, ho, hg, if_pos ⟨h0, hlen, h1, h30⟩]
  have hbody : ∀ t, cancelByTagBody f t = cancelWhere (·.named origin tag) t := fun t => by
    rw [cancelByTagBody, hparse]
  refine ⟨fun a b e hs he hg hab => ?_, fun hnone => ?_⟩
  · obtain ⟨hr, hn⟩ := State.removeEntries_named (s := s.receive f) .cancelled hs ⟨he, hg⟩ hab
    refine whenFormed_of_wellFormed hform (ht.command_eq ((hbody _).trans ?_))
    rw [cancelWhere, hr, hn]
    rfl
  · obtain ⟨hr, hn⟩ := State.removeEntries_none (s := s.receive f) .cancelled hnone
    refine whenFormed_of_wellFormed hform (ht.command_eq ((hbody _).trans ?_))
    rw [cancelWhere, hr, hn]
    rfl

/-- Settles O19: the entries of the channel, of the sender, or all, by the removal's own filter. -/
theorem cancelAndFlushRemoveInBulk : Obligations.CancelAndFlushRemoveInBulk := by
  intro s f
  refine ⟨fun c hw ht hp => ?_, fun b hb hw ht hp => ?_, fun hw ht => ⟨fun hp => ?_, fun hp => ?_⟩⟩
  · have hform : (Instr.cancelByChannel f).wellFormed = true := by simp [Instr.wellFormed, hw, hp, natAt, byteAt]
    have hparse : parseCancelByChannel f.payload = some c.val := by
      have := c.isLt
      simp [parseCancelByChannel, hp, natAt, byteAt]
      omega
    have hgone : (fun e : Entry => e.channel.val == c.val) = (·.channel == c) := funext fun e => by simp [Fin.ext_iff]
    have hbody : cancelByChannelBody f (s.receive f) = cancelWhere (·.channel == c) (s.receive f) := by
      rw [cancelByChannelBody, hparse]
      dsimp only
      rw [if_pos c.isLt, hgone]
    exact whenFormed_of_wellFormed hform (ht.command_eq (hbody.trans (cancelWhere_eq ..)))
  · have hform : (Instr.cancelByChannel f).wellFormed = true := by simp [Instr.wellFormed, hw, hp, natAt, byteAt]
    have hparse : parseCancelByChannel f.payload = some b.toNat := by simp [parseCancelByChannel, hp, natAt, byteAt]
    have hbody : cancelByChannelBody f (s.receive f) = (s.receive f, .badChannel, 0) := by
      rw [cancelByChannelBody, hparse]
      exact if_neg (Nat.not_lt.mpr hb)
    exact whenFormed_of_wellFormed hform (ht.command_eq hbody)
  · have hform : (Instr.flushSchedule f).wellFormed = true := by simp [Instr.wellFormed, hw, hp, natAt, byteAt]
    refine whenFormed_of_wellFormed hform (ht.command_eq ?_)
    rw [flushBody, hp]
    rfl
  · have hform : (Instr.flushSchedule f).wellFormed = true := by simp [Instr.wellFormed, hw, hp, natAt, byteAt]
    have hall : flushBody f (s.receive f) =
        (State.removeEntries (fun _ => true) .cancelled (s.receive f), .ok,
          BitVec.ofNat 16 (State.removedCount (fun _ => true) (s.receive f))) := by
      rw [flushBody, hp]
      rfl
    refine whenFormed_of_wellFormed hform (ht.command_eq (hall.trans ?_))
    rw [State.removeEntries, State.removedCount, List.filter_true, List.countP_true, Bool.not_true, List.filter_false]
    rfl

/-! ### The ten commands before they are carried out (R159 to R163) -/

/-- The state answered is `v` but for the pairs, which are as they were where they follow D and have not moved in this
moment (R71, R72). -/
def State.AnswersButPairs (s v : State) (x : Answer) : Prop :=
  ∃ t, x = .next t ∧ t = { v with pairs := t.pairs } ∧
    (s.FollowLaw → (∀ p : Fin 4, s.pairs[p].moment ≠ some s.localTime) → t.pairs = s.pairs)

/-- The outputs, the configured values and local time are as they were. -/
abbrev State.SameOutputs (s v : State) : Prop :=
  v.channels = s.channels ∧ v.pairs = s.pairs ∧ v.settings = s.settings ∧ v.localTime = s.localTime

/-- A pair that follows its D and has not moved in this moment stays (R72). -/
theorem Pair.follow_self {p : Pair} {now : Time} (deadBand : Nat) (hm : p.moment ≠ some now) :
    p.follow p.drive.d now deadBand = p := by simp [Pair.follow, hm]

/-- Where the outputs are as they were and follow D, the pair controllers have nothing to follow (R71). -/
theorem State.followPairs_pairs {s v : State} (h : s.SameOutputs v) (hl : s.FollowLaw)
    (hm : ∀ p : Fin 4, s.pairs[p].moment ≠ some s.localTime) : v.followPairs.pairs = s.pairs := by
  obtain ⟨hc, hp, hs, ht⟩ := h
  have hheld : v.isHeld = s.isHeld := State.isHeld_congr hs fun c => by rw [hc]
  refine Vector.ext fun k hk => ?_
  simp only [State.followPairs, Vector.getElem_ofFn, State.pairD, hc, hp, hs, ht, hheld]
  split <;> rename_i hf
  · simp only [Bool.and_eq_true, Bool.not_eq_true'] at hf
    have hd : s.pairs[k].drive.d = s.pairD ⟨k, hk⟩ := hl ⟨k, hk⟩ hf.1 hf.2
    change Pair.follow (s.pairD ⟨k, hk⟩) s.localTime _ s.pairs[k] = _
    rw [← hd]
    exact Pair.follow_self _ (hm ⟨k, hk⟩)
  · rfl

/-- What ends a command's meaning: nothing, or the pair controllers' following (R71). -/
theorem State.SameOutputs.answers {s v : State} {ends : State → State} (h : s.SameOutputs v)
    (he : ends = id ∨ ends = State.followPairs) : s.AnswersButPairs v (.next (ends v)) := by
  obtain rfl | rfl := he
  · exact ⟨v, rfl, rfl, fun _ _ => h.2.1⟩
  · exact ⟨v.followPairs, rfl, rfl, State.followPairs_pairs h⟩

/-- A REPLY leaves the outputs. -/
theorem State.SameOutputs.reply {s v : State} (h : s.SameOutputs v) (k : FrameKind) (f : Frame) (c : ResultCode)
    (dup : Bool) (d : Word16) (r : Bool) : s.SameOutputs (v.reply k f c dup d r) := by
  obtain ⟨_, _, _, e⟩ := v.reply_touches k f c dup d r
  rwa [e]

/-- The command record is none of the outputs. -/
theorem State.SameOutputs.writeRecord {s v : State} (h : s.SameOutputs v) (n : Nat) (r : CommandRecord) :
    s.SameOutputs (v.writeRecord n r) := h

/-- What a payload refusal leaves: counted, and for an ARM also under arms refused (R50, R163). -/
def State.payloadRefused (kind : CommandKind) (s : State) : State :=
  { s with
    counters :=
      { s.counters with
        payloadRefusals := bump s.counters.payloadRefusals
        armsRefused := if kind = .arm then bump s.counters.armsRefused else s.counters.armsRefused } }

/-- A row of a command that is no QUERY: its frame goes through the decoder, with a payload check that refuses it where
`refused` says so. -/
def CommandRow (s : State) (i : Instr) (kind : CommandKind) (f : Frame) (refused : Bool) : Prop :=
  ∃ body conclude ends, exec i s = .next (ends (s.command kind f body conclude)) ∧
    (ends = id ∨ ends = State.followPairs) ∧
    (refused = true → body (s.receive f) = ((s.receive f).payloadRefused kind, .badParam, 0) ∧
      conclude .badParam 0 = State.answer kind f .badParam 0)

/-- The ten commands that are no QUERY, each with its kind, and with whether it fails the payload check (R163). -/
abbrev commandRows (f : Frame) : List (Instr × CommandKind × Bool) :=
  [(.arm f, .arm, (parseArm f.payload).isNone),
    (.cancelByTag f, .cancel, (parseCancelByTag f.payload).isNone),
    (.cancelByChannel f, .cancel, (parseCancelByChannel f.payload).isNone),
    (.setgen f, .setgen, false),
    (.reactInstall f, .react, (parseInstall f.payload).isNone),
    (.reactRemove f, .react, (parseRemove f.payload).isNone),
    (.releaseHold f, .control, (parseReleaseHold f.payload).isNone),
    (.clearCounters f, .control, !clearCountersFits f.payload),
    (.flushSchedule f, .control, (parseFlush f.payload).isNone),
    (.restart f, .control, !restartFits f.payload)]

/-- Each of the ten commands has such a row. -/
theorem commandRow_of_mem {s : State} {f : Frame} {i : Instr} {kind : CommandKind} {refused : Bool}
    (hi : (i, kind, refused) ∈ commandRows f) (hw : i.wellFormed = true) : CommandRow s i kind f refused := by
  have row : ∀ {body conclude ends}, exec i s = whenFormed i (ends (s.command kind f body conclude)) →
      (ends = id ∨ ends = State.followPairs) →
      (refused = true → body (s.receive f) = ((s.receive f).payloadRefused kind, .badParam, 0) ∧
        conclude .badParam 0 = State.answer kind f .badParam 0) → CommandRow s i kind f refused :=
    fun hx he hr => ⟨_, _, _, hx.trans (whenFormed_of_wellFormed hw rfl), he, hr⟩
  have answered : ∀ {body}, exec i s = whenFormed i (s.command kind f body (State.answer kind f)) →
      (refused = true → body (s.receive f) = ((s.receive f).payloadRefused kind, .badParam, 0)) →
      CommandRow s i kind f refused :=
    fun hx hb => row (ends := id) hx (.inl rfl) fun h => ⟨hb h, rfl⟩
  simp only [commandRows, List.mem_cons, Prod.mk.injEq, List.not_mem_nil, or_false] at hi
  rcases hi with ⟨rfl, rfl, rfl⟩ | ⟨rfl, rfl, rfl⟩ | ⟨rfl, rfl, rfl⟩ | ⟨rfl, rfl, rfl⟩ | ⟨rfl, rfl, rfl⟩ | ⟨rfl, rfl, rfl⟩ |
    ⟨rfl, rfl, rfl⟩ | ⟨rfl, rfl, rfl⟩ | ⟨rfl, rfl, rfl⟩ | ⟨rfl, rfl, rfl⟩
  · refine row (body := armBody f) (conclude := State.answer .arm f) (ends := State.followPairs) rfl (.inr rfl)
      fun h => ⟨?_, rfl⟩
    rw [armBody, Option.isNone_iff_eq_none.mp h]
    rfl
  · exact answered (body := cancelByTagBody f) rfl fun h => by
      rw [cancelByTagBody, Option.isNone_iff_eq_none.mp h]
      rfl
  · exact answered (body := cancelByChannelBody f) rfl fun h => by
      rw [cancelByChannelBody, Option.isNone_iff_eq_none.mp h]
      rfl
  · exact answered (body := setgenBody f) rfl nofun
  · exact answered (body := installBody f) rfl fun h => by
      rw [installBody, Option.isNone_iff_eq_none.mp h]
      rfl
  · exact answered (body := removeBody f) rfl fun h => by
      rw [removeBody, Option.isNone_iff_eq_none.mp h]
      rfl
  · exact answered (body := releaseHoldBody f) rfl fun h => by
      rw [releaseHoldBody, Option.isNone_iff_eq_none.mp h]
      rfl
  · exact answered (body := clearCountersBody f) rfl fun h => by
      rw [clearCountersBody, (Bool.not_eq_true' _).mp h]
      rfl
  · exact answered (body := flushBody f) rfl fun h => by
      rw [flushBody, Option.isNone_iff_eq_none.mp h]
      rfl
  · refine row (body := restartBody f) (conclude := restartConclude s.restartPending f) (ends := id) rfl (.inl rfl)
      fun h => ⟨?_, rfl⟩
    rw [restartBody, (Bool.not_eq_true' _).mp h]
    rfl

/-- Settles O49: the decoder's cases before a command is carried out, for each of the ten rows. -/
theorem commandsAreTakenOnce : Obligations.CommandsAreTakenOnce := by
  intro s f i kind refused hi hw hf hd
  obtain ⟨body, conclude, ends, hx, he, hr⟩ := commandRow_of_mem (s := s) hi hw
  have handed : s.station.receives = true → s.command kind f body conclude =
      State.decode kind f body conclude (s.receive f) := fun h => by
    rw [State.command, State.handOver, if_neg (by simp [h]), if_neg hf]
  rw [hx]
  refine ⟨fun hs => ?_, fun r ha hrep => ?_, fun ht hrefused => ?_⟩
  · have hna : s.station ≠ .active := by obtain h | h := hs <;> simp [h]
    have hset : s.command kind f body conclude = (s.receive f).setAside := by
      rw [handed (by obtain h | h := hs <;> simp [h]), State.decode, if_neg (by simpa using hd), if_pos (by simpa using hna)]
    rw [hset]
    exact State.SameOutputs.answers (s := s) ⟨rfl, rfl, rfl, rfl⟩ he
  · have hans : s.command kind f body conclude = (s.receive f).answerRepeat kind f r := by
      rw [handed (by simp [ha]), State.decode, if_neg (by simpa using hd), if_neg (by simpa using ha),
        State.repeatOf_receive, hrep]
    rw [hans]
    exact State.SameOutputs.answers (s := s) (.reply ⟨rfl, rfl, rfl, rfl⟩ ..) he
  · obtain ⟨hb, hc⟩ := hr hrefused
    have same : s.SameOutputs ((s.receive f).payloadRefused kind) := ⟨rfl, rfl, rfl, rfl⟩
    have recorded := same.writeRecord f.sender ⟨kind, f.sequence, .badParam, 0⟩
    rw [ht.command_eq hb, hc]
    exact (recorded.reply kind.frameKind f .badParam false 0 false).answers he

end Sys2Proof.Machine
end

section
/-! SUPPORT. What one event can do to the outputs, said once as a chain of updates of the channels and the pairs
(`Drives`). -/

namespace Sys2Proof.Machine

/-! ### One channel and one pair -/

/-- The generator's law of one channel (R54). -/
abbrev Channel.Framed (ch : Channel) : Prop :=
  ch.generates = true →
    ch.highEnd = later ch.frameStart ch.activeSet.high.toNat ∧ ch.frameEnd = later ch.frameStart ch.activeSet.period.toNat

/-- A change of a channel that the laws of the outputs allow: it neither holds nor releases, it keeps the generator's law,
and it starts no pulse and no burst where the channel is held. -/
structure Channel.Moves (held : Bool) (ch ch' : Channel) : Prop where
  hold : ch'.hold = ch.hold
  framed : ch.Framed → ch'.Framed
  still : held = true → ch.pulse = none ∧ ch.burst = none → ch'.pulse = none ∧ ch'.burst = none

/-- The drives of a pair, and those it would start from, are never both 1 (R72). -/
abbrev Pair.Exclusive (p : Pair) : Prop :=
  ¬(p.drive.even = true ∧ p.drive.odd = true) ∧ ¬(p.before.even = true ∧ p.before.odd = true)

namespace Channel

variable {ch : Channel}

theorem Moves.of_sameHold {held : Bool} {ch' : Channel} (h : ch.SameHold ch') (hf : ch.Framed → ch'.Framed) :
    ch.Moves held ch' :=
  ⟨h.1, hf, fun _ hq => ⟨h.2.1.trans hq.1, h.2.2.trans hq.2⟩⟩

theorem framed_of_stopped (h : ch.gen = .stopped) : ch.Framed := fun hg => by simp [generates, h] at hg

theorem completeFrame_framed (h : ch.Framed) : ch.completeFrame.Framed := by
  unfold completeFrame
  dsimp only
  split
  · exact fun _ => ⟨rfl, rfl⟩
  · exact framed_of_stopped rfl
  · exact h

theorem stepForward_framed (now : Time) (h : ch.Framed) : (ch.stepForward now).1.Framed := by
  unfold stepForward
  dsimp only
  repeat' split
  · exact h
  · exact fun _ => ⟨rfl, rfl⟩
  · exact completeFrame_framed h
  · exact h
  · exact h

theorem stopGen_framed (param : Word16) (h : ch.Framed) : (ch.stopGen param).Framed := by
  unfold stopGen
  split <;> rename_i hg
  · exact h
  all_goals exact fun _ => h (by simp [generates, hg])

theorem takePending_gen (ch : Channel) : ch.takePending.gen = ch.gen := by
  unfold takePending
  split <;> rfl

theorem load_framed (now : Time) : (ch.load now).Framed := by
  unfold load
  split <;> rename_i hg
  · exact fun _ => ⟨rfl, rfl⟩
  · exact fun h => absurd (by rwa [generates, takePending_gen] at h) hg

theorem startPulse_moves (now : Time) (width : Nat) : ch.Moves false (ch.startPulse now width) := by
  unfold startPulse
  split <;> exact ⟨rfl, id, nofun⟩

theorem startBurst_moves (now : Time) (half count : Nat) : ch.Moves false (ch.startBurst now half count) := by
  unfold startBurst
  split <;> exact ⟨rfl, id, nofun⟩

theorem takeSet_moves {held : Bool} (g : GenSet) : ch.Moves held (ch.takeSet g) := by
  unfold takeSet
  split <;> rename_i hg
  · exact ⟨rfl, id, fun _ => id⟩
  · exact ⟨rfl, fun _ h => absurd h hg, fun _ => id⟩

theorem takeSet_baseDrive (g : GenSet) : (ch.takeSet g).baseDrive = ch.baseDrive := by
  unfold takeSet
  split <;> rfl

end Channel

/-- A vector written at one place, read at another (`Fin` indices). -/
theorem getElem_set_fin {α : Type} {n : Nat} (v : Vector α n) (i j : Fin n) (x : α) :
    (v.set i x)[j] = if i = j then x else v[j] := by
  simp [Fin.getElem_fin, Vector.getElem_set, Fin.ext_iff]

/-! ### Pairs and their holders -/

theorem pairOf_evenOf (p : Fin 4) : pairOf (evenOf p) = p := Fin.ext (by simp [pairOf, evenOf])

theorem pairOf_oddOf (p : Fin 4) : pairOf (oddOf p) = p := Fin.ext (by simp [pairOf, oddOf]; omega)

/-- The even channel of a pair is its own holder, and that of an enabled pair's odd channel (R73). -/
theorem State.holder_evenOf (s : State) (p : Fin 4) : s.holder (evenOf p) = evenOf p := by
  simp [State.holder, pairOf_evenOf]

theorem State.isPaired_of_enabled {s : State} {p : Fin 4} (h : s.settings.pairs[p].enabled = true) :
    s.isPaired (evenOf p) = true ∧ s.isPaired (oddOf p) = true := by
  simp only [State.isPaired, pairOf_evenOf, pairOf_oddOf]
  exact ⟨h, h⟩

theorem State.holder_oddOf {s : State} {p : Fin 4} (h : s.settings.pairs[p].enabled = true) :
    s.holder (oddOf p) = evenOf p := by
  rw [State.holder, if_pos (State.isPaired_of_enabled h).2, pairOf_oddOf]

theorem State.isHeld_evenOf (s : State) (p : Fin 4) : s.isHeld (evenOf p) = s.channels[evenOf p].hold.isSome := by
  simp only [State.isHeld, State.holder_evenOf]

/-! ### The chain -/

/-- What the laws of the outputs read. -/
abbrev State.outputs (s : State) : Vector Channel 8 × Vector Pair 4 × Settings := (s.channels, s.pairs, s.settings)

/-- The states that an event which finds the station in `s₀` can bring about, as the outputs see it, but for a reset and
for an image that passes. `steady`: the pair controllers have followed whatever the channels did (R71). The chain tells too
where a station that receives no frame could come to receive them. -/
inductive Drives (s₀ : State) : Bool → State → Prop
  | start : Drives s₀ true s₀
  /-- What touches neither the channels, nor the pairs, nor the configured values. -/
  | apart {steady : Bool} {s t : State} (h : Drives s₀ steady s) (e : t.outputs = s.outputs)
      (hr : t.station.receives = true → s.station.receives = true ∨ s₀.line.condition = .sending) : Drives s₀ steady t
  | stir {steady : Bool} {s : State} (h : Drives s₀ steady s) : Drives s₀ false s
  | channels {steady : Bool} {s : State} (h : Drives s₀ steady s) (new : Vector Channel 8)
      (hm : ∀ c : Fin 8, s.channels[c].Moves (s.isHeld c) new[c])
      (hd : steady = true → ∀ c : Fin 8, new[c].baseDrive = s.channels[c].baseDrive) :
      Drives s₀ steady { s with channels := new }
  | pairs {steady : Bool} {s : State} (h : Drives s₀ steady s) (new : Vector Pair 4)
      (hd : ∀ p : Fin 4, new[p].drive.d = s.pairs[p].drive.d)
      (hx : ∀ p : Fin 4, s.pairs[p].Exclusive → new[p].Exclusive) : Drives s₀ steady { s with pairs := new }
  | enterHold {steady : Bool} {s : State} (h : Drives s₀ steady s) (cause : HoldCause) (named : Fin 8 → Bool)
      (hn : ∀ p : Fin 4, s.settings.pairs[p].enabled = true → named (evenOf p) = named (oddOf p)) :
      Drives s₀ steady (s.enterHold cause named)
  | release {steady : Bool} {s : State} (h : Drives s₀ steady s) (mask : Byte) : Drives s₀ steady (s.release mask).1
  | followPairs {steady : Bool} {s : State} (h : Drives s₀ steady s) : Drives s₀ true s.followPairs

namespace Drives

variable {s₀ s : State} {steady : Bool}

/-! ### What leaves the outputs -/

theorem arrive (h : Drives s₀ steady s) (kind : TxKind) (d : Nat) (q : BitVec 4) (p : List Byte) (r : Bool) :
    Drives s₀ steady (s.arrive kind d q p r) := by
  obtain ⟨_, _, _, e⟩ := s.arrive_touches kind d q p r
  rw [e]
  exact h.apart rfl .inl

theorem reply (h : Drives s₀ steady s) (k : FrameKind) (f : Frame) (c : ResultCode) (dup : Bool) (d : Word16)
    (r : Bool) : Drives s₀ steady (s.reply k f c dup d r) := by
  obtain ⟨_, _, _, e⟩ := s.reply_touches k f c dup d r
  rw [e]
  exact h.apart rfl .inl

theorem drop (e : Entry) (s : State) (h : Drives s₀ steady s) : Drives s₀ steady (s.drop e) := by
  obtain ⟨_, _, _, e'⟩ := s.drop_touches e
  rw [e']
  exact h.apart rfl .inl

theorem afterFiring (e : Entry) (s : State) (h : Drives s₀ steady s) : Drives s₀ steady (s.afterFiring e) := by
  obtain ⟨_, _, _, _, e'⟩ := s.afterFiring_touches e
  rw [e']
  exact h.apart rfl .inl

theorem removeEntries (h : Drives s₀ steady s) (gone : Entry → Bool) (o : NoticeOutcome) :
    Drives s₀ steady (s.removeEntries gone o) := by
  obtain ⟨_, _, _, e⟩ := s.removeEntries_touches gone o
  rw [e]
  exact h.apart rfl .inl

theorem publishMark (h : Drives s₀ steady s) (r : CaptureRecord) : Drives s₀ steady (s.publishMark r) := by
  obtain ⟨_, _, _, e⟩ := s.publishMark_touches r
  rw [e]
  exact h.apart rfl .inl

theorem stampDuty (h : Drives s₀ steady s) : Drives s₀ steady s.stampDuty := by
  obtain ⟨_, _, _, e⟩ := s.stampDuty_touches
  rw [e]
  exact h.apart rfl .inl

theorem countListen (h : Drives s₀ steady s) : Drives s₀ steady s.countListen := by
  unfold State.countListen
  dsimp only
  split <;> rename_i hl
  · split
    · obtain ⟨_, _, _, _, e⟩ := State.activate_touches { s with listenCount := s.listenCount + 1 }
      rw [e]
      exact h.apart rfl fun _ => .inl (by simp [hl])
    · exact h.apart rfl .inl
  · exact h

/-! ### Actions and firings (R37 to R42, R56 to R63) -/

/-- One channel is written. -/
theorem setChannel (h : Drives s₀ steady s) {c : Fin 8} {ch : Channel} (hm : s.channels[c].Moves (s.isHeld c) ch)
    (hd : steady = true → ch.baseDrive = s.channels[c].baseDrive) : Drives s₀ steady (s.setChannel c ch) := by
  refine h.channels _ (fun d => ?_) (fun hs d => ?_) <;> rw [getElem_set_fin] <;> split <;> rename_i hcd
  · exact hcd ▸ hm
  · exact ⟨rfl, id, fun _ => id⟩
  · exact hcd ▸ hd hs
  · rfl

theorem setLatch (h : Drives s₀ false s) (c : Fin 8) (level : Bool) : Drives s₀ false (s.setLatch c level) := by
  have removed : Drives s₀ false (s.setChannel c { s.channels[c] with pulse := none, burst := none }) :=
    h.setChannel ⟨rfl, id, fun _ _ => ⟨rfl, rfl⟩⟩ nofun
  have cut : Drives s₀ false (s.cut c) := removed.apart rfl .inl
  exact cut.setChannel ⟨rfl, id, fun _ => id⟩ nofun

/-- An action starts neither pulse nor burst on a held channel (R75). -/
theorem takeAction (c : Fin 8) (a : Action) (p : Word16) (s : State) (h : Drives s₀ false s) :
    Drives s₀ false (s.takeAction c a p) := by
  cases a
  case setHigh | setLow | toggle => exact h.setLatch c _
  case pulse =>
    unfold State.takeAction
    dsimp only
    split <;> rename_i hh
    · exact h
    · exact h.setChannel (by rw [Bool.not_eq_true] at hh; rw [hh]; exact Channel.startPulse_moves ..) nofun
  case burst =>
    unfold State.takeAction
    dsimp only
    split <;> rename_i hh
    · exact h
    · exact h.setChannel (by rw [Bool.not_eq_true] at hh; rw [hh]; exact Channel.startBurst_moves ..) nofun
  case startGen =>
    exact h.setChannel (.of_sameHold (Channel.startGen_sameHold ..) fun _ _ => ⟨rfl, rfl⟩) nofun
  case stopGen =>
    exact h.setChannel (.of_sameHold (Channel.stopGen_sameHold ..) (Channel.stopGen_framed p)) nofun
  case load => exact h.setChannel (.of_sameHold (Channel.load_sameHold ..) fun _ => Channel.load_framed _) nofun

theorem fire (e : Entry) (s : State) (h : Drives s₀ false s) : Drives s₀ false (s.fire e) :=
  fire_keeps drop (fun _ _ h => h.apart rfl .inl) takeAction afterFiring e s h

theorem fireReached (h : Drives s₀ false s) : Drives s₀ false s.fireReached :=
  foldl_fire_keeps (fun e _ => fire e) (h.apart rfl .inl)

theorem armEntry (h : Drives s₀ false s) (e : Entry) : Drives s₀ false (s.armEntry e) := by
  have inserted : Drives s₀ false (s.insert e) := h.apart rfl .inl
  unfold State.armEntry
  split
  exacts [inserted.fireReached, inserted]

theorem arm (h : Drives s₀ false s) (n : Nat) (r : ArmRequest) : Drives s₀ false (s.arm n r).1 := by
  unfold State.arm State.armChecked
  repeat' split
  case h_2.isFalse.isFalse.isFalse.isFalse.isTrue => exact (h.removeEntries ..).armEntry _
  case h_2.isFalse.isFalse.isFalse.isFalse.isFalse.isFalse => exact h.armEntry _
  all_goals exact h

/-! ### Marks and captures -/

theorem runMatch (h : Drives s₀ false s) (m : Mark) (r : Reaction) (i : Fin 24) :
    Drives s₀ false (s.runMatch m r i).1 := by
  have armed : ∀ due, Drives s₀ false (s.armReaction r i due).1 := fun due => by
    unfold State.armReaction
    dsimp only
    repeat' split
    exacts [(h.removeEntries ..).armEntry _, h, h, h.armEntry _]
  unfold State.runMatch
  dsimp only
  repeat' split
  exacts [h, h, armed _, h, h, armed _]

theorem takeMark (h : Drives s₀ false s) (m : Mark) : Drives s₀ false (s.takeMark m) := by
  unfold State.takeMark
  generalize List.finRange 24 = l
  induction l generalizing s with
  | nil => exact h
  | cons i rest ih =>
    refine ih ?_
    change Drives s₀ false (s.markSlot m i)
    obtain ⟨-, e⟩ | ⟨r, -, -, e⟩ := State.markSlot_cases m i s <;> rw [e]
    exacts [h, (h.runMatch m r i).apart rfl .inl]

theorem distribute (h : Drives s₀ false s) (r : CaptureRecord) (first : Bool) :
    Drives s₀ false (s.distribute r first) := by
  unfold State.distribute State.handLocalMark
  split
  · split
    exacts [(h.publishMark r).takeMark _, (h.takeMark _).publishMark r]
  · exact h.takeMark _
  all_goals exact h

theorem edgeOfInterest (h : Drives s₀ false s) (i : Fin 4) (e : Edge) (first : Bool) :
    Drives s₀ false (s.edgeOfInterest i e first) := by
  have logged : Drives s₀ false ((s.openHoldOff i).logCapture ((s.openHoldOff i).captureRecord i e)) :=
    h.apart rfl .inl
  unfold State.edgeOfInterest
  repeat' split
  exacts [h.apart rfl .inl, logged.distribute _ _, h.apart rfl .inl]

/-! ### The settle point -/

theorem stepGenerators (h : Drives s₀ false s) (change : Int) : Drives s₀ false (s.stepGenerators change) := by
  unfold State.stepGenerators
  split
  · refine (h.channels (Vector.ofFn fun c =>
      if s.channels[c].generates then s.channels[c].startFrame s.lineTime else s.channels[c]) (fun c => ?_) nofun).apart
      rfl .inl
    simp only [Fin.getElem_fin, Vector.getElem_ofFn]
    split
    exacts [⟨rfl, fun _ _ => ⟨rfl, rfl⟩, fun _ => id⟩, ⟨rfl, id, fun _ => id⟩]
  · split
    · refine (h.channels (Vector.ofFn fun c => (s.channels[c].stepForward s.lineTime).1) (fun c => ?_) nofun).apart
        rfl .inl
      simp only [Fin.getElem_fin, Vector.getElem_ofFn]
      exact .of_sameHold (Channel.stepForward_sameHold ..) (Channel.stepForward_framed _)
    · exact h

/-- The channels configured to hold on loss enter hold, an enabled pair as one (R73). -/
theorem holdOnLoss (h : Drives s₀ steady s) (cause : HoldCause) : Drives s₀ steady (s.holdOnLoss cause) :=
  h.enterHold cause _ fun p hp => by
    simp only [State.holdsOnLoss, State.holder_evenOf, State.holder_oddOf hp]

theorem settleAct (news : SettleNews) (a : SettleAct) (s : State) (h : Drives s₀ false s) :
    Drives s₀ false (s.settleAct news a) := by
  cases a with
  | agePeers => exact h.apart rfl .inl
  | stampDuty => exact h.stampDuty
  | listenCount => exact h.countListen
  | hold =>
    unfold State.settleAct
    dsimp only
    split
    exacts [h.holdOnLoss _, h]
  | generators => exact h.stepGenerators _
  | schedule => exact stepSchedule_keeps drop fire (fun _ _ h => h.apart rfl .inl) _ s h

theorem settle (h : Drives s₀ steady s) (order : List SettleAct) : Drives s₀ true (s.settle order) := by
  have own : Drives s₀ false s.settleUnit := h.stir.apart rfl .inl
  exact (foldl_settleAct_keeps (fun a _ u hu => settleAct _ a u hu) own).followPairs

end Drives
end Sys2Proof.Machine
end

section
/-! SUPPORT. Every command is a chain of updates of the outputs; a reset and an image that passes have a shape of their own
(`exec_drives`). -/

namespace Sys2Proof.Machine

namespace Drives

variable {s₀ s : State} {steady : Bool}

/-! ### Silencing and restart (R188, R191) -/

theorem holdAll (h : Drives s₀ steady s) (cause : HoldCause) : Drives s₀ steady (s.holdAll cause) :=
  h.enterHold cause _ fun _ _ => rfl

theorem silence (h : Drives s₀ steady s) (hr : s.station.receives = true) : Drives s₀ steady s.silence :=
  (h.holdAll .fault).apart rfl fun _ => .inl hr

theorem takeRestart (h : Drives s₀ steady s) (hr : s.station.receives = true ∨ s₀.line.condition = .sending) :
    Drives s₀ steady s.takeRestart := (h.holdAll .restart).apart rfl fun _ => hr

theorem duplicateFound (h : Drives s₀ steady s) : Drives s₀ steady s.duplicateFound := by
  have dropped : Drives s₀ steady { s with line := { s.line with latched := none } } := h.apart rfl .inl
  unfold State.duplicateFound
  dsimp only
  split <;> rename_i hs
  case h_1 | h_2 => exact dropped.silence (by simp [hs])
  case h_3 => exact dropped
  all_goals exact h

/-! ### The hand-over of a frame, and the decoder -/

theorem handOver (h : Drives s₀ steady s) {f : Frame} {next : State → State}
    (hn : ∀ {t}, Drives s₀ steady t → Drives s₀ steady (next t)) : Drives s₀ steady (s.handOver f next) := by
  obtain ⟨-, e⟩ | ⟨-, -, e⟩ | ⟨-, -, e⟩ := State.handOver_cases f next s <;> rw [e]
  exacts [h, h.duplicateFound, hn (h.apart rfl .inl)]

/-- What the decoder needs of a command's payload check and dispatch. -/
abbrev Body (s₀ : State) (steady : Bool) (body : State → State × ResultCode × Word16) : Prop :=
  ∀ {t : State}, Drives s₀ steady t → t.station = .active →
    Drives s₀ steady (body t).1 ∧ (body t).1.station = .active

theorem decode (h : Drives s₀ steady s) (kind : CommandKind) (f : Frame) {body : State → State × ResultCode × Word16}
    {conclude : ResultCode → Word16 → State → State} (hb : Body s₀ steady body)
    (hc : ∀ {c d t}, Drives s₀ steady t → t.station = .active → Drives s₀ steady (conclude c d t)) :
    Drives s₀ steady (s.decode kind f body conclude) := by
  obtain ⟨-, e⟩ | ⟨-, -, e⟩ | ⟨-, -, r, -, e⟩ | ⟨-, ha, -, e⟩ := State.decode_cases kind f body conclude s <;> rw [e]
  · exact h
  · exact h.apart rfl .inl
  · exact reply (s := s.countRepeat) (h.apart rfl .inl) ..
  · obtain ⟨hd, hs⟩ := hb h ha
    exact hc (hd.apart rfl .inl) hs

theorem command (h : Drives s₀ steady s) (kind : CommandKind) {f : Frame}
    {body : State → State × ResultCode × Word16} (hb : Body s₀ steady body) :
    Drives s₀ steady (s.command kind f body (State.answer kind f)) :=
  h.handOver fun ht => ht.decode kind f hb fun hu _ => hu.reply ..

theorem query (h : Drives s₀ steady s) (topic per : Nat) (build : State → List (List Byte)) {f : Frame} :
    Drives s₀ steady (s.query topic per build f) := by
  refine h.handOver fun {t} ht => ?_
  dsimp only
  repeat' split
  exacts [ht, ht.apart rfl .inl, ht, ht.arrive ..]

/-! ### The bodies of the commands -/

theorem armBody (f : Frame) : Body s₀ false (armBody f) := by
  intro t h ha
  unfold Machine.armBody
  dsimp only
  split
  · exact ⟨by split <;> exact h.apart rfl .inl, by split <;> exact ha⟩
  · rename_i r _
    have armed := h.arm f.sender r
    obtain ⟨_, _, _, _, _, e⟩ := t.arm_touches f.sender r
    have hs : (t.arm f.sender r).1.station = .active := by rw [e]; exact ha
    exact ⟨by split; exacts [armed, armed.apart rfl .inl], by split <;> exact hs⟩

theorem removal {t : State} (h : Drives s₀ steady t) (ha : t.station = .active) (gone : Entry → Bool) :
    Drives s₀ steady (t.removeEntries gone .cancelled) ∧ (t.removeEntries gone .cancelled).station = .active := by
  obtain ⟨_, _, _, e⟩ := t.removeEntries_touches gone .cancelled
  exact ⟨h.removeEntries _ _, by rw [e]; exact ha⟩

theorem refusePayload {t : State} (h : Drives s₀ steady t) (ha : t.station = .active) :
    Drives s₀ steady t.refusePayload.1 ∧ t.refusePayload.1.station = .active := ⟨h.apart rfl .inl, ha⟩

theorem cancelByTagBody (f : Frame) : Body s₀ steady (cancelByTagBody f) := by
  intro t h ha
  unfold Machine.cancelByTagBody
  split
  exacts [h.refusePayload ha, h.removal ha _]

theorem cancelByChannelBody (f : Frame) : Body s₀ steady (cancelByChannelBody f) := by
  intro t h ha
  unfold Machine.cancelByChannelBody
  repeat' split
  exacts [h.refusePayload ha, h.removal ha _, ⟨h, ha⟩]

theorem flushBody (f : Frame) : Body s₀ steady (flushBody f) := by
  intro t h ha
  unfold Machine.flushBody
  split
  exacts [h.refusePayload ha, h.removal ha _]

/-- A new set of a generator moves no drive (R66). -/
theorem setgenBody (f : Frame) : Body s₀ steady (setgenBody f) := by
  intro t h ha
  unfold Machine.setgenBody State.setgen
  split
  · dsimp only
    split
    · exact ⟨h, ha⟩
    split
    · exact ⟨h, ha⟩
    split
    · exact ⟨h, ha⟩
    · exact ⟨h.setChannel (Channel.takeSet_moves _) fun _ => Channel.takeSet_baseDrive _, ha⟩
  · exact ⟨h, ha⟩

theorem installBody (f : Frame) : Body s₀ steady (installBody f) := by
  intro t h ha
  unfold Machine.installBody
  split
  · exact h.refusePayload ha
  · rename_i r _
    obtain ⟨_, e⟩ := t.install_touches f.sender r
    simp only [e]
    exact ⟨h.apart rfl .inl, ha⟩

theorem removeBody (f : Frame) : Body s₀ steady (removeBody f) := by
  intro t h ha
  unfold Machine.removeBody
  split
  · exact h.refusePayload ha
  · rename_i n _
    obtain ⟨_, e⟩ := t.removeReaction_touches n
    simp only [e]
    exact ⟨h.apart rfl .inl, ha⟩

theorem releaseHoldBody (f : Frame) : Body s₀ steady (releaseHoldBody f) := by
  intro t h ha
  unfold Machine.releaseHoldBody
  split
  exacts [h.refusePayload ha, ⟨h.release _, ha⟩]

theorem clearCountersBody (f : Frame) : Body s₀ steady (clearCountersBody f) := by
  intro t h ha
  have cleared : Drives s₀ steady { t with channels := Vector.ofFn fun c => { t.channels[c] with skipped := 0 } } :=
    h.channels _ (fun c => by simpa using ⟨rfl, id, fun _ => id⟩) fun _ c => by simp [Channel.baseDrive]
  unfold Machine.clearCountersBody
  split
  exacts [⟨cleared.apart rfl .inl, ha⟩, h.refusePayload ha]

theorem restartBody (f : Frame) : Body s₀ steady (restartBody f) := by
  intro t h ha
  unfold Machine.restartBody
  split
  exacts [⟨h.apart rfl .inl, ha⟩, h.refusePayload ha]

theorem restartConclude (h : Drives s₀ steady s) (ha : s.station = .active) (was : Bool) (f : Frame) (c : ResultCode)
    (d : Word16) : Drives s₀ steady (restartConclude was f c d s) := by
  have hr : ∀ r, (s.reply .control f c false d r).station.receives = true := fun r => by
    obtain ⟨_, _, _, e⟩ := s.reply_touches .control f c false d r
    simp [e, ha]
  obtain e | ⟨-, -, e⟩ | ⟨-, -, -, e⟩ := restartConclude_cases was f c d s <;> rw [e]
  · exact h.reply ..
  · exact h.takeRestart (.inl (by simp [ha]))
  · split
    exacts [h.reply .., (h.reply ..).takeRestart (.inl (hr _))]

theorem takeMarkFrame (h : Drives s₀ false s) (f : Frame) : Drives s₀ false (s.takeMarkFrame f) := by
  unfold State.takeMarkFrame
  repeat' split
  exacts [h.takeMark _, h.apart rfl .inl, h]

theorem refuseTopic (h : Drives s₀ steady s) (f : Frame) : Drives s₀ steady (s.refuseTopic f) := by
  unfold State.refuseTopic
  repeat' split
  exacts [h, h.apart rfl .inl, reply (s := s.refusePayload.1) (h.apart rfl .inl) ..]

/-! ### The rows of R136 -/

/-- A clean frame handed on by its row, with no step overtaken. The rows that can fire an entry end with the pair
controllers' following. -/
theorem exec_frame (h : Drives s₀ true s) {i : Instr} {f : Frame} {t : State} (hi : i.frame? = some f)
    (hd : ∀ k g o, i ≠ .duplicateNumberFrame k g (some o)) (hx : exec i s = .next t) : Drives s₀ true t := by
  cases i <;> simp only [Instr.frame?, Option.some.injEq, reduceCtorEq] at hi <;> obtain rfl := hi.symm
  case duplicateNumberFrame k o =>
    cases o with
    | some o => exact absurd rfl (hd _ _ o)
    | none =>
      change execDuplicateNumberFrame k f none s = .next t at hx
      unfold execDuplicateNumberFrame at hx
      dsimp only at hx
      split at hx
      · cases hx
      · split at hx <;> cases hx
        exacts [h, h.duplicateFound]
  all_goals obtain ⟨-, rfl⟩ := whenFormed_eq_next.mp hx
  case markReceived => exact (h.stir.handOver (takeMarkFrame · f)).followPairs
  case arm => exact (h.stir.command _ (armBody f)).followPairs
  case helloReceived | stampReceived => exact h.handOver id
  case foreignAnswer => exact h.handOver fun ht => ht.apart rfl .inl
  case commandForAnotherStation =>
    split
    exacts [h, h.handOver id]
  case cancelByTag => exact h.command _ (cancelByTagBody f)
  case cancelByChannel => exact h.command _ (cancelByChannelBody f)
  case setgen => exact h.command _ (setgenBody f)
  case reactInstall => exact h.command _ (installBody f)
  case reactRemove => exact h.command _ (removeBody f)
  case releaseHold => exact h.command _ (releaseHoldBody f)
  case clearCounters => exact h.command _ (clearCountersBody f)
  case flushSchedule => exact h.command _ (flushBody f)
  case restart => exact h.handOver fun ht => ht.decode _ f (restartBody f) fun hu ha => hu.restartConclude ha ..
  case queryUnknownTopic => exact h.handOver (refuseTopic · f)
  all_goals exact h.query _ _ _

theorem deliver (h : Drives s₀ true s) {kind : FrameKind} {f : Frame} {t : State}
    (hx : s.deliver kind f = .next t) : Drives s₀ true t := by
  obtain ⟨hf, hd⟩ := rowOf_frame? s.settings.station kind f
  exact h.exec_frame hf hd (State.deliver_eq_exec_rowOf .. ▸ hx)

/-! ### The commands that hand on no frame -/

theorem captureEdge (h : Drives s₀ true s) {i : Fin 4} {e : Edge} {first : Bool} {t : State}
    (hx : execCaptureEdge i e first s = .next t) : Drives s₀ true t := by
  cases hx
  have levelled : Drives s₀ true (s.setLevel i (levelAfter e)) := h.apart rfl .inl
  repeat' split
  exacts [h.apart rfl .inl, h, (levelled.stir.edgeOfInterest i e first).followPairs, levelled]

theorem settlePoint (h : Drives s₀ true s) {order : List SettleAct} {t : State}
    (hx : execSettlePoint order s = .next t) : Drives s₀ true t := by
  obtain ⟨-, rfl⟩ := whenFormed_eq_next.mp hx
  split
  exacts [h.settle order, h]

theorem entryDue (h : Drives s₀ true s) : Drives s₀ true s.fireReached.followPairs := h.stir.fireReached.followPairs

/-- A channel's own moment: the channel is written, and the pairs follow. -/
theorem moment {c : Fin 8} {ch : Channel} {due : Bool} (hm : s.channels[c].Moves (s.isHeld c) ch) :
    Drives s true (if due then (s.setChannel c ch).followPairs else s) := by
  split
  exacts [(start.stir.setChannel hm nofun).followPairs, start]

theorem deadBandExpiry (p : Fin 4) :
    Drives s true (if s.deadBandEnds p then { s with pairs := s.pairs.set p (s.pairs[p].expire s.localTime) } else s) := by
  have kept : ∀ v : PairDrive, v.expire.d = v.d ∧ (¬(v.even = true ∧ v.odd = true) →
      ¬(v.expire.even = true ∧ v.expire.odd = true)) := fun v => by
    unfold PairDrive.expire
    split <;> simp
  split
  · refine start.pairs _ (fun q => ?_) (fun q hq => ?_) <;> rw [getElem_set_fin] <;> split <;> rename_i hpq
    · exact hpq ▸ (kept _).1
    · rfl
    · subst hpq
      refine ⟨(kept _).2 hq.1, ?_⟩
      unfold Pair.expire
      dsimp only
      split
      exacts [(kept _).2 hq.2, hq.2]
    · exact hq
  · exact start

theorem lineGoesQuiet {cells : List Bool} {more first : Bool} {t : State}
    (hx : execLineGoesQuiet cells more first s = .next t) : Drives s true t := by
  unfold execLineGoesQuiet at hx
  split at hx
  · cases hx
    exact start
  · split at hx
    · cases hx
      exact start.apart rfl .inl
    · obtain ⟨n, e, -⟩ | ⟨kind, f, u, v, -, -, hu, ⟨-, hd, e⟩ | ⟨-, hd, e⟩⟩ := State.endStretch_cases cells more first s
      all_goals
        rw [e] at hx
        cases hx
      · exact start.apart rfl .inl
      · have delivered : Drives s true v := deliver (hu ▸ start.apart rfl .inl) hd
        exact delivered.apart rfl .inl
      · have quiet : Drives s true u.beginQuiet := hu ▸ start.apart rfl .inl
        exact quiet.deliver hd

theorem collision {t : State} (hx : execCollision s = .next t) : Drives s true t := by
  cases hx
  split <;> rename_i hc
  · split
    · exact start.apart rfl .inl
    · rename_i f _
      split
      · have gone : Drives s true s.giveUp := start.apart rfl .inl
        change Drives s true (if f.restartReply then s.giveUp.takeRestart else s.giveUp)
        split
        exacts [gone.takeRestart (.inr hc), gone]
      · exact start.apart rfl .inl
  · exact start

theorem ownFrameCleanEnd {t : State} (hx : execOwnFrameCleanEnd s = .next t) : Drives s true t := by
  cases hx
  have finished : Drives s true s.finishFrame := start.apart rfl .inl
  split <;> rename_i he
  · split
    exacts [finished.takeRestart (.inr (by simp_all [State.ownFrameEnds])), finished]
  · exact start

/-- A command that hands on no frame, and is neither a reset nor the end of the configuration read. -/
theorem exec_event {i : Instr} {t : State} (hi : i.frame? = none)
    (hr : i ≠ .powerOn ∧ i ≠ .resetNAsserted ∧ i ≠ .configReadEnd) (hx : exec i s = .next t) : Drives s true t := by
  cases i <;> simp only [Instr.frame?, reduceCtorEq] at hi
  case powerOn => exact absurd rfl hr.1
  case resetNAsserted => exact absurd rfl hr.2.1
  case configReadEnd => exact absurd rfl hr.2.2
  case settlePoint => exact start.settlePoint hx
  case captureEdge => exact start.captureEdge hx
  case lineGoesQuiet => exact lineGoesQuiet hx
  case collision => exact collision hx
  case ownFrameCleanEnd => exact ownFrameCleanEnd hx
  case resetNReleased =>
    obtain ⟨-, rfl⟩ := whenFormed_eq_next.mp hx
    split
    exacts [start.apart rfl .inl, start]
  all_goals cases hx
  case entryDue => exact start.entryDue
  case pulseEnd => exact moment ⟨rfl, id, fun _ h => ⟨rfl, h.2⟩⟩
  case burstHalfEnd => exact moment ⟨rfl, id, fun _ h => ⟨h.1, by rw [h.2]; rfl⟩⟩
  case genFrameEnd => exact moment (.of_sameHold (Channel.completeFrame_sameHold _) Channel.completeFrame_framed)
  case genHighEnd =>
    refine moment ?_
    split
    exacts [.of_sameHold (Channel.completeFrame_sameHold _) Channel.completeFrame_framed, ⟨rfl, id, fun _ => id⟩]
  case deadBandExpiry p => exact deadBandExpiry p
  all_goals
    repeat' split
    all_goals exact start.apart rfl .inl

/-- An overtaken step is taken as the row it is. -/
theorem takeOvertaken (h : Drives s₀ true s) {o : OvertakenStep} {t : State} (hx : s.takeOvertaken o = .next t) :
    Drives s₀ true t := by
  cases o with
  | entryDue =>
    cases hx
    exact h.entryDue
  | settlePoint order => exact h.settlePoint hx
  | captureEdge => exact h.captureEdge hx
  | delivered kind f =>
    unfold State.takeOvertaken at hx
    dsimp only at hx
    split at hx <;> rename_i hf
    · cases hx
      exact h.duplicateFound
    · refine h.deliver (kind := kind) (f := f) ?_
      rwa [State.deliver, if_neg hf]

end Drives

/-- What any command does to the outputs: a reset, an image that passes, or a chain of updates at whose end every pair
has followed its D (R71). -/
theorem exec_drives {i : Instr} {s t : State} (hx : exec i s = .next t) :
    t = s.initial ∨ (∃ image, s.readComplete = true ∧ imagePasses image = true ∧ t = s.acceptImage image) ∨
      Drives s true t := by
  by_cases hr : i = .powerOn ∨ i = .resetNAsserted
  · left
    obtain rfl | rfl := hr <;> cases hx <;> rfl
  right
  by_cases hc : i = .configReadEnd
  · subst hc
    cases hx
    split <;> rename_i he
    · exact .inr .start
    · have he : s.readComplete = true := by simpa using he
      split <;> rename_i hp
      · exact .inl ⟨_, he, hp, rfl⟩
      · exact .inr (Drives.start.apart rfl nofun)
  right
  cases hf : i.frame? with
  | none => exact .exec_event hf ⟨(not_or.mp hr).1, (not_or.mp hr).2, hc⟩ hx
  | some f =>
    by_cases hd : ∃ k g o, i = .duplicateNumberFrame k g (some o)
    · obtain ⟨k, g, o, rfl⟩ := hd
      have hw : (Instr.duplicateNumberFrame k g (some o)).wellFormed = true := by
        by_contra h
        rw [Bool.not_eq_true] at h
        simp [exec, execDuplicateNumberFrame, h] at hx
      obtain ⟨-, e⟩ | ⟨-, h', -⟩ | ⟨-, o', u, ho', hu, e⟩ := execDuplicateNumberFrame_cases s hw
      · cases e.symm.trans hx
        exact .start
      · cases h'
      · cases ho'
        cases e.symm.trans hx
        have told : ∀ shut, Drives s true { s with queueShutFrom := shut } := fun _ => Drives.start.apart rfl .inl
        have taken : Drives s true u := (told _).takeOvertaken hu
        exact Drives.duplicateFound (taken.apart rfl .inl)
    · exact Drives.start.exec_frame hf (fun k g o h => hd ⟨k, g, o, h⟩) hx

/-- A tick forgets the moments, and moves no drive (R71). -/
theorem State.tick_drives (s : State) : Drives s true s.tick := by
  unfold State.tick
  split
  · exact .start
  · have forgotten : Drives s true { s with pairs := Vector.ofFn fun p => { s.pairs[p] with moment := none } } :=
      Drives.start.pairs _ (fun p => by simp) fun p h => by simpa using h
    unfold State.clockIn
    split
    all_goals exact forgotten.apart rfl .inl

/-- A step is a reset, the end of the read of an image that passes, or a chain of updates. -/
theorem step_drives {s t : State} (hx : step s = .next t) :
    ∃ l, t = State.initial { s with pending := l } ∨
      (∃ image, s.readComplete = true ∧ imagePasses image = true ∧ t = State.acceptImage image { s with pending := l }) ∨
      Drives { s with pending := l } true t := by
  unfold step at hx
  split at hx
  · rename_i rest _
    exact ⟨rest, exec_drives hx⟩
  · refine ⟨s.pending, ?_⟩
    split at hx
    · exact exec_drives hx
    · cases hx
      exact .inr (.inr s.tick_drives)

/-- What a reset, an image that passes, and every chain of updates keep, every step keeps. -/
theorem step_keeps_outputs {P : State → Prop} (pending : ∀ s l, P s → P { s with pending := l })
    (initial : ∀ s : State, P s.initial) (accept : ∀ (s : State) image, imagePasses image = true → P (s.acceptImage image))
    (drives : ∀ {s t}, Drives s true t → P s → P t) {s t : State} (hx : step s = .next t) (hs : P s) : P t := by
  obtain ⟨l, rfl | ⟨image, -, hp, rfl⟩ | hd⟩ := step_drives hx
  exacts [initial _, accept _ image hp, drives hd (pending s l hs)]

end Sys2Proof.Machine
end

section
/-! Every step keeps the laws of the generators, the holds, the following pairs and the pairs' drives (R54, R71 to R77). -/

namespace Sys2Proof.Machine

/-! ### The pair controller (R71, R72, R77) -/

/-- The drives from which a change of D in this moment starts: several changes are one change from them (R72). -/
def Pair.base (now : Time) (p : Pair) : PairDrive := if p.moment = some now then p.before else p.drive

theorem Pair.follow_eq (d : Bool) (now : Time) (deadBand : Nat) (p : Pair) :
    p.follow d now deadBand =
      if d = (p.base now).d then { p with drive := p.base now }
      else { drive := PairDrive.turnTo d now deadBand, moment := some now, before := p.base now } := rfl

@[simp] theorem PairDrive.turnTo_d (d : Bool) (now : Time) (deadBand : Nat) : (turnTo d now deadBand).d = d := by
  unfold turnTo
  split <;> rfl

/-- A change of D turns on at most the one drive that D names (R72). -/
theorem PairDrive.turnTo_not_both (d : Bool) (now : Time) (deadBand : Nat) :
    ¬((turnTo d now deadBand).even = true ∧ (turnTo d now deadBand).odd = true) := by
  unfold turnTo
  split <;> simp

/-- A pair controller that follows has taken D (R71). -/
theorem Pair.follow_d (d : Bool) (now : Time) (deadBand : Nat) (p : Pair) : (p.follow d now deadBand).drive.d = d := by
  rw [Pair.follow_eq]
  split <;> rename_i h
  · exact h.symm
  · exact PairDrive.turnTo_d ..

theorem Pair.Exclusive.follow {p : Pair} (h : p.Exclusive) (d : Bool) (now : Time) (deadBand : Nat) :
    (p.follow d now deadBand).Exclusive := by
  have base : ¬((p.base now).even = true ∧ (p.base now).odd = true) := by
    unfold Pair.base
    split
    exacts [h.2, h.1]
  rw [Pair.follow_eq]
  split
  exacts [⟨base, h.2⟩, ⟨PairDrive.turnTo_not_both d now deadBand, base⟩]

theorem Pair.release_exclusive (d : Bool) (now : Time) (deadBand : Nat) : (Pair.release d now deadBand).Exclusive :=
  ⟨PairDrive.turnTo_not_both d now deadBand, by simp [Pair.release]⟩

theorem Pair.cancel_exclusive (p : Pair) : p.cancel.Exclusive := by simp [Pair.Exclusive, Pair.cancel]

/-! ### The updates of the channels and the pairs, one by one -/

section

variable (s : State)

theorem State.enterHold_channel (cause : HoldCause) (named : Fin 8 → Bool) (c : Fin 8) :
    (s.enterHold cause named).channels[c] = if named c then s.channels[c].enterHold cause else s.channels[c] := by
  simp [State.enterHold]

theorem State.enterHold_pair (cause : HoldCause) (named : Fin 8 → Bool) (p : Fin 4) :
    (s.enterHold cause named).pairs[p] = if named (evenOf p) then s.pairs[p].cancel else s.pairs[p] := by
  simp [State.enterHold]

theorem State.release_channel (mask : Byte) (c : Fin 8) :
    (s.release mask).1.channels[c] = { s.channels[c] with hold := if s.releases mask c then none else s.channels[c].hold } := by
  simp only [State.release, Fin.getElem_fin, Vector.getElem_ofFn, Fin.eta]
  split <;> rfl

theorem State.release_pair (mask : Byte) (p : Fin 4) :
    (s.release mask).1.pairs[p] =
      if s.settings.pairs[p].enabled && s.releases mask (evenOf p) then
        Pair.release (s.pairD p) s.localTime s.settings.pairs[p].deadBand
      else s.pairs[p] := by
  simp [State.release]

theorem State.followPairs_pair (p : Fin 4) :
    s.followPairs.pairs[p] =
      if s.settings.pairs[p].enabled && !s.isHeld (evenOf p) then
        s.pairs[p].follow (s.pairD p) s.localTime s.settings.pairs[p].deadBand
      else s.pairs[p] := by
  simp [State.followPairs]

theorem State.initialChannels_channel (c : Fin 8) :
    s.initialChannels.channels[c] = Channel.initial s.settings.channels[c] (s.holdsOnLoss c) := by
  simp [State.initialChannels]

/-- At the end of configuration an enabled pair that is not held goes through the dead band to its safe value (R77). -/
theorem State.initialChannels_pair (p : Fin 4) :
    s.initialChannels.pairs[p] =
      if s.settings.pairs[p].enabled && !s.holdsOnLoss (evenOf p) then
        Pair.release s.settings.channels[evenOf p].safe s.localTime s.settings.pairs[p].deadBand
      else Pair.blank := by
  have held : State.isHeld { s with channels := Vector.ofFn fun c => Channel.initial s.settings.channels[c] (s.holdsOnLoss c) }
      (evenOf p) = s.holdsOnLoss (evenOf p) := by
    rw [State.isHeld_evenOf]
    cases h : s.holdsOnLoss (evenOf p) <;> simp [Channel.initial, h]
  have value : State.pairD { s with channels := Vector.ofFn fun c => Channel.initial s.settings.channels[c] (s.holdsOnLoss c) }
      p = s.settings.channels[evenOf p].safe := by
    simp [State.pairD, Channel.initial, Channel.blank, Channel.baseDrive]
  rw [← value, ← held]
  simp [State.initialChannels]

end

/-- Which outputs two states share. -/
theorem State.outputs_eq {s t : State} (h : t.outputs = s.outputs) :
    t.channels = s.channels ∧ t.pairs = s.pairs ∧ t.settings = s.settings := by
  simpa only [State.outputs, Prod.mk.injEq] using h

/-! ### The generators' law -/

theorem Drives.keeps_generators {s₀ s : State} {steady : Bool} (h : Drives s₀ steady s) (hl : s₀.GeneratorLaw) :
    s.GeneratorLaw := by
  induction h with
  | start => exact hl
  | apart h e hr ih =>
    obtain ⟨hc, -, -⟩ := State.outputs_eq e
    rw [State.GeneratorLaw, hc]
    exact ih
  | channels h new hm hd ih => exact fun c => (hm c).framed (ih c)
  | enterHold h cause named hn ih =>
    intro c
    rw [State.enterHold_channel]
    split
    exacts [nofun, ih c]
  | release h mask ih =>
    intro c
    rw [State.release_channel]
    exact ih c
  | _ => assumption

/-! ### The hold law -/

/-- A channel is the even or the odd one of its pair. -/
theorem eq_evenOf_or_oddOf (c : Fin 8) : c = evenOf (pairOf c) ∨ c = oddOf (pairOf c) := by
  simp only [Fin.ext_iff, evenOf, oddOf, pairOf]
  omega

/-- Under the hold law a channel is held where its own hold says so. -/
theorem State.HoldLaw.isHeld_eq {s : State} (h : s.HoldLaw) (c : Fin 8) : s.isHeld c = s.channels[c].hold.isSome := by
  cases hp : s.isPaired c with
  | false => simp [State.isHeld, State.holder, hp]
  | true =>
    have he : s.isHeld c = s.channels[evenOf (pairOf c)].hold.isSome := State.isHeld_of_pair hp
    obtain hc | hc := eq_evenOf_or_oddOf c
    · simpa only [← hc] using he
    · simpa only [h.2 _ hp, ← hc] using he

/-- A RELEASE_HOLD releases an enabled pair as one (R76). -/
theorem State.releases_pair {s : State} {p : Fin 4} (h : s.settings.pairs[p].enabled = true) (mask : Byte) :
    s.releases mask (evenOf p) = s.releases mask (oddOf p) := by
  obtain ⟨he, ho⟩ := State.isPaired_of_enabled h
  simp only [State.releases, State.releaseNames, State.isHeld, State.holdsOnLoss, State.holder_evenOf,
    State.holder_oddOf h, he, ho, pairOf_evenOf, pairOf_oddOf, if_true]

theorem Drives.keeps_holds {s₀ s : State} {steady : Bool} (h : Drives s₀ steady s) (hl : s₀.HoldLaw) : s.HoldLaw := by
  induction h with
  | start => exact hl
  | apart h e hr ih =>
    obtain ⟨hc, -, hs⟩ := State.outputs_eq e
    rw [State.HoldLaw, hc, hs]
    exact ih
  | channels h new hm hd ih =>
    refine ⟨fun c hc => ?_, fun p hp => ?_⟩
    · rw [(hm c).hold] at hc
      exact (hm c).still ((ih.isHeld_eq c).trans hc) (ih.1 c hc)
    · rw [(hm _).hold, (hm _).hold]
      exact ih.2 p hp
  | enterHold h cause named hn ih =>
    refine ⟨fun c => ?_, fun p hp => ?_⟩
    · rw [State.enterHold_channel]
      split
      exacts [fun _ => ⟨rfl, rfl⟩, ih.1 c]
    · rw [State.enterHold_channel, State.enterHold_channel, hn p hp]
      split
      exacts [rfl, ih.2 p hp]
  | @release _ u h mask ih =>
    refine ⟨fun c => ?_, fun p hp => ?_⟩
    · rw [State.release_channel]
      dsimp only
      split
      exacts [nofun, ih.1 c]
    · rw [State.release_channel, State.release_channel]
      dsimp only
      rw [State.releases_pair (s := u) hp, ih.2 p hp]
  | _ => assumption

/-! ### The law of following pairs -/

/-- The law read channel by channel: the even channel of a pair is its own holder. -/
theorem State.followLaw_iff (s : State) :
    s.FollowLaw ↔ ∀ p : Fin 4, s.settings.pairs[p].enabled = true → s.channels[evenOf p].hold = none →
      s.pairs[p].drive.d = s.channels[evenOf p].baseDrive := by
  simp only [State.FollowLaw, State.isHeld_evenOf, State.pairD, Option.isSome_eq_false_iff, Option.isNone_iff_eq_none]

/-- A pair that has not followed yet may stand at an older D; where every pair has, none does (R71). -/
theorem Drives.keeps_following {s₀ s : State} {steady : Bool} (h : Drives s₀ steady s) (hs : steady = true)
    (hl : s₀.FollowLaw) : s.FollowLaw := by
  rw [State.followLaw_iff] at hl ⊢
  induction h with
  | start => exact hl
  | apart h e hr ih =>
    obtain ⟨hc, hp, hs'⟩ := State.outputs_eq e
    rw [hc, hp, hs']
    exact ih hs
  | stir => cases hs
  | channels h new hm hd ih =>
    intro p hp hh
    rw [hd hs]
    exact ih hs p hp ((hm _).hold ▸ hh)
  | pairs h new hd hx ih => exact fun p hp hh => (hd p).trans (ih hs p hp hh)
  | enterHold h cause named hn ih =>
    intro p hp
    rw [State.enterHold_channel, State.enterHold_pair]
    split
    exacts [nofun, ih hs p hp]
  | @release _ u h mask ih =>
    intro p hp hh
    have hp : u.settings.pairs[p].enabled = true := hp
    rw [State.release_channel] at hh ⊢
    rw [State.release_pair, hp]
    cases hr : u.releases mask (evenOf p) with
    | true => exact PairDrive.turnTo_d ..
    | false => exact ih hs p hp (by simpa [hr] using hh)
  | @followPairs _ u h ih =>
    intro p hp hh
    have hp : u.settings.pairs[p].enabled = true := hp
    have hh : u.channels[evenOf p].hold = none := hh
    rw [State.followPairs_pair, hp, State.isHeld_evenOf, hh]
    exact Pair.follow_d ..

/-! ### A reset, and the end of configuration (R77, R79, R81) -/

section

variable (s : State)

theorem State.initial_channel (c : Fin 8) : s.initial.channels[c] = Channel.blank := by
  simp [State.initial, State.reset]

theorem State.initial_pair (p : Fin 4) : s.initial.pairs[p] = Pair.blank := by simp [State.initial, State.reset]

/-- No pair is enabled after a reset. -/
theorem State.initial_disabled (p : Fin 4) : s.initial.settings.pairs[p].enabled = false := by
  simp [State.initial, State.reset, Settings.blank]

variable (image : List Byte)

theorem State.acceptImage_settings : (s.acceptImage image).settings = imageSettings image := rfl

theorem State.acceptImage_channel (c : Fin 8) :
    (s.acceptImage image).channels[c] =
      Channel.initial (imageSettings image).channels[c] ((s.acceptImage image).holdsOnLoss c) :=
  State.initialChannels_channel _ c

theorem State.acceptImage_pair (p : Fin 4) :
    (s.acceptImage image).pairs[p] =
      if (imageSettings image).pairs[p].enabled && !(s.acceptImage image).holdsOnLoss (evenOf p) then
        Pair.release (imageSettings image).channels[evenOf p].safe s.localTime (imageSettings image).pairs[p].deadBand
      else Pair.blank :=
  State.initialChannels_pair _ p

theorem State.acceptImage_follows : (s.acceptImage image).FollowLaw := by
  rw [State.followLaw_iff]
  intro p hp hh
  have hfree : (s.acceptImage image).holdsOnLoss (evenOf p) = false := by
    by_contra h
    rw [State.acceptImage_channel, Channel.initial] at hh
    simp [h] at hh
  rw [State.acceptImage_pair, State.acceptImage_channel, hfree, show (imageSettings image).pairs[p].enabled = true from hp]
  exact PairDrive.turnTo_d ..

end

/-- Settles O30: every update of the outputs keeps the three laws, and the pair controllers follow whatever moved a D. -/
theorem stepsKeepOutputLaws : Obligations.StepsKeepOutputLaws := by
  intro s t hx
  refine ⟨step_keeps_outputs (P := State.GeneratorLaw) (fun _ _ h => h) (fun s c => ?_) (fun s image _ c => ?_)
      (fun hd h => hd.keeps_generators h) hx,
    step_keeps_outputs (P := State.HoldLaw) (fun _ _ h => h) (fun s => ⟨fun c => ?_, fun p hp => ?_⟩)
      (fun s image _ => ⟨fun c _ => ?_, fun p hp => ?_⟩) (fun hd h => hd.keeps_holds h) hx,
    step_keeps_outputs (P := State.FollowLaw) (fun _ _ h => h) (fun s p hp => ?_)
      (fun s image _ => s.acceptImage_follows image) (fun hd h => hd.keeps_following rfl h) hx⟩
  · rw [State.initial_channel]
    exact nofun
  · rw [State.acceptImage_channel]
    exact nofun
  · rw [State.initial_channel]
    exact nofun
  · rw [State.initial_channel, State.initial_channel]
  · rw [State.acceptImage_channel]
    exact ⟨rfl, rfl⟩
  · simp only [State.acceptImage_channel, Channel.initial, State.holdsOnLoss, State.holder_evenOf, State.holder_oddOf hp]
  · rw [State.initial_disabled] at hp
    cases hp

/-! ### The pairs' law -/

/-- No chain of updates changes the configured values. -/
theorem Drives.settings_eq {s₀ s : State} {steady : Bool} (h : Drives s₀ steady s) : s.settings = s₀.settings := by
  induction h with
  | start => rfl
  | apart h e hr ih => exact (State.outputs_eq e).2.2.trans ih
  | _ => assumption

theorem Drives.keeps_exclusive {s₀ s : State} {steady : Bool} (h : Drives s₀ steady s)
    (hl : ∀ p : Fin 4, s₀.pairs[p].Exclusive) : ∀ p : Fin 4, s.pairs[p].Exclusive := by
  induction h with
  | start => exact hl
  | apart h e hr ih =>
    rw [(State.outputs_eq e).2.1]
    exact ih
  | pairs h new hd hx ih => exact fun p => hx p (ih p)
  | enterHold h cause named hn ih =>
    intro p
    rw [State.enterHold_pair]
    split
    exacts [Pair.cancel_exclusive _, ih p]
  | release h mask ih =>
    intro p
    rw [State.release_pair]
    split
    exacts [Pair.release_exclusive .., ih p]
  | followPairs h ih =>
    intro p
    rw [State.followPairs_pair]
    split
    exacts [(ih p).follow .., ih p]
  | _ => assumption

/-- The safe values of an enabled pair are not both 1 (R183). -/
abbrev Settings.SafeApart (g : Settings) : Prop :=
  ∀ p : Fin 4, g.pairs[p].enabled = true → ¬(g.channels[evenOf p].safe = true ∧ g.channels[oddOf p].safe = true)

theorem State.pairLaw_iff (s : State) : s.PairLaw ↔ (∀ p : Fin 4, s.pairs[p].Exclusive) ∧ s.settings.SafeApart :=
  ⟨fun h => ⟨fun p => ⟨(h p).1, (h p).2.1⟩, fun p => (h p).2.2⟩, fun h p => ⟨(h.1 p).1, (h.1 p).2, h.2 p⟩⟩

theorem Drives.keeps_pairs {s₀ s : State} {steady : Bool} (h : Drives s₀ steady s) (hl : s₀.PairLaw) : s.PairLaw := by
  rw [State.pairLaw_iff] at hl ⊢
  rw [h.settings_eq]
  exact ⟨h.keeps_exclusive hl.1, hl.2⟩

/-- The tests of R183, as conditions on the values. -/
theorem settingsConsistent_iff (g : Settings) :
    settingsConsistent g = true ↔
      (∀ c : Fin 8, g.channels[c].defaultHigh.toNat ≤ g.channels[c].defaultPeriod.toNat) ∧
      ∀ p : Fin 4, g.pairs[p].enabled = true → g.channels[evenOf p].mode ≠ .carrier ∧
        ¬(g.channels[evenOf p].safe = true ∧ g.channels[oddOf p].safe = true) := by
  simp only [settingsConsistent, Bool.and_eq_true, List.all_eq_true, List.mem_finRange, forall_const, decide_eq_true_iff,
    Bool.or_eq_true, Bool.not_eq_true', bne_iff_ne, ← Bool.not_eq_true, ← imp_iff_not_or]

/-- An image that passes keeps the safe values of an enabled pair apart (R183). -/
theorem imageSettings_safeApart {image : List Byte} (h : imagePasses image = true) : (imageSettings image).SafeApart :=
  fun p hp => (((settingsConsistent_iff _).mp (Bool.and_eq_true_iff.mp h).2).2 p hp).2

/-- Settles O31: an unheld pair drives what its controller gives, a held one its safe values; every update keeps either
from being both 1. -/
theorem pairNeverDrivesBoth : Obligations.PairNeverDrivesBoth := by
  refine ⟨fun s p hl he => ?_, fun s t hl hx => ?_⟩
  · obtain ⟨hd, -, hs⟩ := hl p
    cases hh : s.channels[evenOf p].hold with
    | none =>
      obtain ⟨h1, h2⟩ := State.drive_of_pair he hh
      rwa [h1, h2]
    | some cause =>
      have held : s.isHeld (evenOf p) = true ∧ s.isHeld (oddOf p) = true := by
        simp only [State.isHeld, State.holder_evenOf, State.holder_oddOf he, hh, Option.isSome_some, and_self]
      rw [State.drive, State.drive, if_pos held.1, if_pos held.2]
      exact hs he
  · refine step_keeps_outputs (P := State.PairLaw) (fun _ _ h => h) (fun s => ?_) (fun s image hp => ?_)
      (fun hd h => hd.keeps_pairs h) hx hl
    · refine s.initial.pairLaw_iff.mpr ⟨fun p => ?_, fun p hp => ?_⟩
      · rw [State.initial_pair]
        simp [Pair.Exclusive, Pair.blank]
      · rw [State.initial_disabled] at hp
        cases hp
    · refine (s.acceptImage image).pairLaw_iff.mpr ⟨fun p => ?_, imageSettings_safeApart hp⟩
      rw [State.acceptImage_pair]
      split
      · exact Pair.release_exclusive ..
      · simp [Pair.Exclusive, Pair.blank]

end Sys2Proof.Machine
end

section
/-! What the actions, the channels' own moments and a change of D do (R55 to R65, R71, R72), and the burst's length (R59). -/

namespace Sys2Proof.Machine

/-! ### The burst (R59) -/

/-- The state of a burst of `count` cycles after `k` of its half ends. -/
def Burst.after (count half k : Nat) (start : Time) : Burst :=
  ⟨count - k / 2, decide (k % 2 = 0), later start ((k + 1) * half)⟩

/-- A half end leads to the next half, but for the last one. -/
theorem Burst.next_after {count half k : Nat} (start : Time) (hk : k < 2 * count) :
    (Burst.after count half k start).next half =
      if k + 1 < 2 * count then some (Burst.after count half (k + 1) start) else none := by
  have hstop : later (later start ((k + 1) * half)) half = later start ((k + 1 + 1) * half) := by
    rw [later_later, ← Nat.succ_mul]
  obtain hz | hz := Nat.mod_two_eq_zero_or_one k
  · have hlt : k + 1 < 2 * count := by omega
    have hodd : (k + 1) % 2 = 1 := by omega
    have hcycles : (k + 1) / 2 = k / 2 := by omega
    simp [Burst.next, Burst.after, hz, hodd, hlt, hcycles, hstop]
  · have heven : (k + 1) % 2 = 0 := by omega
    by_cases hlt : k + 1 < 2 * count
    · have hleft : ¬count - k / 2 ≤ 1 := by omega
      have hcycles : count - k / 2 - 1 = count - (k + 1) / 2 := by omega
      simp [Burst.next, Burst.after, hz, heven, hlt, hleft, hcycles, hstop]
    · have hleft : count - k / 2 ≤ 1 := by omega
      simp [Burst.next, Burst.after, hz, hlt, hleft]

/-- Settles O22: by induction on the half ends. -/
theorem burstLastsItsCycles : Obligations.BurstLastsItsCycles := by
  intro count half k start hc
  have inFlight : ∀ k < 2 * count,
      (fun o => Option.bind o (Burst.next half))^[k] (some ⟨count, true, later start half⟩) =
        some (Burst.after count half k start) := by
    intro k
    induction k with
    | zero => exact fun _ => by simp [Burst.after]
    | succ k ih =>
      intro hk
      rw [Function.iterate_succ_apply', ih (by omega), Option.bind_some, Burst.next_after start (by omega), if_pos hk]
  refine ⟨inFlight k, ?_⟩
  obtain ⟨n, hn⟩ : ∃ n, 2 * count = n + 1 := ⟨2 * count - 1, by omega⟩
  rw [hn, Function.iterate_succ_apply', inFlight n (by omega), Option.bind_some, Burst.next_after start (by omega),
    if_neg (by omega)]

/-! ### The actions (R57 to R63) -/

/-- Settles O21: action by action. -/
theorem latchPulseAndBurstActions : Obligations.LatchPulseAndBurstActions := by
  intro s c param
  have latch : ∀ level, s.setLatch c level =
      { s with
        channels := s.channels.set c { s.channels[c] with latch := level, pulse := none, burst := none }
        counters :=
          { s.counters with
            pulsesCut := if s.channels[c].pulse = none then s.counters.pulsesCut else bump s.counters.pulsesCut
            burstsCut := if s.channels[c].burst = none then s.counters.burstsCut else bump s.counters.burstsCut } } := by
    intro level
    cases hp : s.channels[c].pulse <;> cases hb : s.channels[c].burst <;>
      simp_all [State.setLatch, State.cut, State.setChannel]
  refine ⟨?_, fun hh => ⟨if_pos hh, if_pos hh⟩, fun hh => ?_⟩
  · rintro a (rfl | rfl | rfl) <;> exact latch _
  have pulse : s.takeAction c .pulse param = s.setChannel c (s.channels[c].startPulse s.localTime param.toNat) :=
    if_neg (by simp [hh])
  have burst : s.takeAction c .burst param =
      s.setChannel c (s.channels[c].startBurst s.localTime s.settings.carrierHalf param.toNat) := if_neg (by simp [hh])
  rw [pulse, burst]
  refine ⟨fun hp => ?_, fun p hp => ?_, fun hb => ?_, fun b hb => ?_⟩
  · rw [Channel.startPulse, hp]
    rfl
  · rw [Channel.startPulse, hp]
    rfl
  · rw [Channel.startBurst, hb]
    rfl
  · rw [Channel.startBurst, hb]
    rfl

/-- The set that a generator's next frame runs on: the pending one, if there is one (R61). -/
theorem Channel.takePending_eq {ch : Channel} {g : GenSet} (h : ch.pendingSet.getD ch.activeSet = g) :
    ch.takePending = { ch with activeSet := g, pendingSet := none } := by
  unfold Channel.takePending
  subst h
  cases hp : ch.pendingSet with
  | none =>
    obtain ⟨⟩ := ch
    simp_all
  | some g => rfl

/-- A generator runs or stops where it is not STOPPED (R54). -/
theorem Channel.generates_iff {ch : Channel} : ch.generates = true ↔ ch.gen ≠ .stopped := bne_iff_ne

/-- STOP_GEN stops a generator at once or at its frame end, and leaves a STOPPED one (R62). -/
theorem Channel.stopGen_eq (param : Word16) (ch : Channel) :
    ch.stopGen param =
      { ch with gen := if ch.gen = .stopped then .stopped else if param = 0 then .stopped else .stopping } := by
  obtain ⟨⟩ := ch
  rename_i gen _ _ _ _ _ _ _ _ _
  cases gen <;> rfl

/-- Settles O23: the pending set is taken, and a frame of it starts. -/
theorem generatorActions : Obligations.GeneratorActions := by
  intro s c param g hg
  have taken := Channel.takePending_eq hg
  have load : s.takeAction c .load param = s.setChannel c (s.channels[c].load s.lineTime) := rfl
  refine ⟨?_, ?_, fun hs => ?_, fun hs => ?_⟩
  · change s.setChannel c (s.channels[c].startGen s.lineTime) = _
    rw [Channel.startGen, taken]
    rfl
  · change s.setChannel c (s.channels[c].stopGen param) = _
    rw [Channel.stopGen_eq]
    rfl
  · rw [load, Channel.load, if_neg (by rw [Channel.generates_iff, hs]; simp), taken]
    rfl
  · rw [load, Channel.load, if_pos (Channel.generates_iff.mpr hs), taken]
    rfl

/-! ### The ends of pulses, bursts and frames (R55, R58, R59, R64, R65) -/

/-- Settles O25: the moment's own change of the channel, and then the pairs follow. -/
theorem pulseAndBurstHalvesEnd : Obligations.PulseAndBurstHalvesEnd := by
  intro s c
  refine ⟨fun p hp hr => ?_, fun b hb hr => ?_⟩
  · have due : s.pulseEnds c = true := by rwa [State.pulseEnds, hp]
    refine ⟨_, congrArg Host.Outcome.next (if_pos due), rfl, fun hpair hheld hb => ?_⟩
    have free : State.isHeld (s.setChannel c { s.channels[c] with pulse := none }).followPairs c = false :=
      (congrFun (State.setChannel_isHeld (ch := { s.channels[c] with pulse := none }) rfl) c).trans hheld
    rw [State.drive_of_free free hpair, State.followPairs_channels, State.setChannel_channels, getElem_set_fin, if_pos rfl]
    obtain ⟨hrun, hstop⟩ := (Channel.baseDrive_cases { s.channels[c] with pulse := none }).2.2 rfl hb
    split <;> rename_i hg
    exacts [hstop hg, hrun hg]
  · have due : s.burstHalfEnds c = true := by rwa [State.burstHalfEnds, hb]
    refine congrArg Host.Outcome.next ((if_pos due).trans ?_)
    rw [hb]
    rfl

/-- A frame completes: it is counted, a pending set is taken, and the next frame starts at its end, or the generator stops
in its LOW phase (R65). -/
theorem Channel.completeFrame_eq {ch : Channel} {g : GenSet} (hg : ch.pendingSet.getD ch.activeSet = g) :
    (ch.gen = .running → ch.completeFrame =
      Channel.startFrame ch.frameEnd { ch with frameCount := ch.frameCount + 1, activeSet := g, pendingSet := none }) ∧
    (ch.gen = .stopping → ch.completeFrame =
      { ch with
        gen := .stopped, phaseHigh := false, frameCount := ch.frameCount + 1, activeSet := g, pendingSet := none }) := by
  have taken := Channel.takePending_eq (ch := { ch with frameCount := ch.frameCount + 1 }) hg
  unfold Channel.completeFrame
  dsimp only
  rw [taken]
  exact ⟨fun h => by split <;> simp_all, fun h => by split <;> simp_all [Channel.endHigh]⟩

theorem State.frameEnds_iff {s : State} {c : Fin 8} :
    s.frameEnds c = true ↔ s.channels[c].gen ≠ .stopped ∧ s.lineReached s.channels[c].frameEnd = true := by
  rw [State.frameEnds, Bool.and_eq_true, Channel.generates_iff]

theorem State.highEnds_iff {s : State} {c : Fin 8} :
    s.highEnds c = true ↔ s.channels[c].gen ≠ .stopped ∧ s.channels[c].phaseHigh = true ∧
      s.lineReached s.channels[c].highEnd = true := by
  rw [State.highEnds, Bool.and_eq_true, Bool.and_eq_true, Channel.generates_iff, and_assoc]

/-- Settles O27: both ends reached are the frame's end. -/
theorem generatorFramesRun : Obligations.GeneratorFramesRun := by
  intro s c g hg
  have frameEnd : s.lineReached s.channels[c].frameEnd = true → s.channels[c].gen ≠ .stopped →
      exec (.genFrameEnd c) s = .next (s.setChannel c s.channels[c].completeFrame).followPairs := fun hr hn =>
    congrArg Host.Outcome.next (if_pos (State.frameEnds_iff.mpr ⟨hn, hr⟩))
  obtain ⟨runs, stops⟩ := Channel.completeFrame_eq hg
  refine ⟨fun hn hp hh => ?_, fun hr => ⟨fun hrun => ?_, fun hstop => ?_⟩⟩
  · have due := State.highEnds_iff.mpr ⟨hn, hp, hh⟩
    refine ⟨fun hr => ?_, fun hr => ?_⟩
    · have ahead : ¬s.frameEnds c = true := fun h => Bool.false_ne_true (hr.symm.trans (State.frameEnds_iff.mp h).2)
      refine congrArg Host.Outcome.next ((if_pos due).trans ?_)
      rw [if_neg ahead]
      rfl
    · rw [frameEnd hr hn]
      refine congrArg Host.Outcome.next ((if_pos due).trans ?_)
      rw [if_pos (State.frameEnds_iff.mpr ⟨hn, hr⟩)]
  · rw [frameEnd hr (by rw [hrun]; exact nofun), runs hrun]
    rfl
  · rw [frameEnd hr (by rw [hstop]; exact nofun), stops hstop]
    rfl

/-! ### The dead band (R71, R72) -/

/-- Settles O26: the pair controller's following, and the expiry of its turn-on. -/
theorem deadBandExpiryTurnsOn : Obligations.DeadBandExpiryTurnsOn := by
  refine ⟨?_, fun s p u hu hr => ?_⟩
  · rintro s t p v d rfl rfl rfl
    refine ⟨rfl, fun h => ?_, fun he hh => ?_⟩
    · rw [State.followPairs_pair]
      obtain h | h := h <;> rw [h]
      · rfl
      · rw [Bool.not_true, Bool.and_false]
        rfl
    · have follows : s.followPairs.pairs[p] = s.pairs[p].follow (s.pairD p) s.localTime s.settings.pairs[p].deadBand := by
        rw [State.followPairs_pair, he, hh]
        rfl
      rw [follows, Pair.follow_eq]
      refine ⟨fun hd => if_pos hd, fun hd => ?_⟩
      rw [if_neg (show ¬s.pairD p = (s.pairs[p].base s.localTime).d from hd)]
      refine ⟨rfl, rfl, fun h0 => if_pos h0, fun h0 => if_neg (by omega)⟩
  · have due : s.deadBandEnds p = true := by rwa [State.deadBandEnds, hu]
    refine ⟨_, congrArg Host.Outcome.next (if_pos due), rfl, ?_, fun q hq => ?_⟩
    · rw [getElem_set_fin, if_pos rfl]
      exact if_pos (by rw [hu]; rfl)
    · rw [getElem_set_fin, if_neg (Ne.symm hq)]

end Sys2Proof.Machine
end

section
/-! The frames a forward step skips (R68), SETGEN (R66) and RELEASE_HOLD (R76, R77). -/

namespace Sys2Proof.Machine

/-! ### The skipped frames (R68) -/

/-- A generator's channel `n` frames after the present one, each of them skipped (R68). -/
def Channel.skip (now : Time) (n : Nat) (ch : Channel) : Channel :=
  let moved := ch.startFrame (later ch.frameStart (n * ch.activeSet.period.toNat))
  { moved with
    frameCount := ch.frameCount + BitVec.ofNat 16 n
    skipped := bumpBy n ch.skipped
    phaseHigh := !isReached now moved.highEnd }

theorem Channel.skipPassed_eq (now : Time) (ch : Channel) : ch.skipPassed now = ch.skip now (ch.framesPassed now) := rfl

/-- The loop of R68 skips the frames whose ends are reached, `n` of them. -/
theorem skipFrames_eq {now : Time} {n fuel : Nat} {ch : Channel}
    (hh : ch.highEnd = later ch.frameStart ch.activeSet.high.toNat)
    (he : ch.frameEnd = later ch.frameStart ch.activeSet.period.toNat)
    (hr : ∀ k < n, isReached now (later ch.frameStart ((k + 1) * ch.activeSet.period.toNat)) = true)
    (hn : isReached now (later ch.frameStart ((n + 1) * ch.activeSet.period.toNat)) = false) (hf : n < fuel) :
    skipFrames now fuel ch = ch.skip now n := by
  induction n generalizing fuel ch with
  | zero =>
    obtain ⟨f, rfl⟩ : ∃ f, fuel = f + 1 := ⟨fuel - 1, by omega⟩
    rw [Nat.zero_add, Nat.one_mul, ← he] at hn
    have hz : later ch.frameStart 0 = ch.frameStart := add_zero _
    rw [skipFrames, hn]
    simp [Channel.skip, Channel.startFrame, hz, bumpBy_zero, ← hh, ← he]
  | succ n ih =>
    obtain ⟨f, rfl⟩ : ∃ f, fuel = f + 1 := ⟨fuel - 1, by omega⟩
    have h0 : isReached now ch.frameEnd = true := by simpa [← he] using hr 0 (Nat.succ_pos n)
    have hk : ∀ k, later ch.frameEnd (k * ch.activeSet.period.toNat) =
        later ch.frameStart ((k + 1) * ch.activeSet.period.toNat) := fun k => by
      rw [he, later_later, Nat.succ_mul, Nat.add_comm]
    have hcount : ch.frameCount + 1 + BitVec.ofNat 16 n = ch.frameCount + BitVec.ofNat 16 (n + 1) := by
      rw [Nat.add_comm n, BitVec.ofNat_add, ← add_assoc]
      rfl
    have hskip : bumpBy n (bump ch.skipped) = bumpBy (n + 1) ch.skipped := by rw [bump, bumpBy_bumpBy, Nat.add_comm]
    rw [skipFrames, if_pos h0]
    rw [ih (ch := { ch.startFrame ch.frameEnd with frameCount := ch.frameCount + 1, skipped := bump ch.skipped }) rfl rfl
      (fun k hk' => (congrArg _ (hk (k + 1))).trans (hr (k + 1) (Nat.succ_lt_succ hk')))
      ((congrArg _ (hk (n + 1))).trans hn) (Nat.lt_of_succ_lt_succ hf)]
    simp only [Channel.skip, Channel.startFrame, hk, hcount, hskip]

/-- Settles O24: the division counts the whole periods since the frame's start, which are the frames whose ends are
reached. -/
theorem frameSkipsAsTheLoop : Obligations.FrameSkipsAsTheLoop := by
  intro now ch fuel hp hr hh he hf
  have hdiv := Nat.div_add_mod (ticksSince now ch.frameStart) ch.activeSet.period.toNat
  have hmod := Nat.mod_lt (ticksSince now ch.frameStart) hp
  have hper := ch.activeSet.period.isLt
  rw [Nat.mul_comm] at hdiv
  have hreach : ∀ k ≤ ch.framesPassed now,
      (isReached now (later ch.frameStart ((k + 1) * ch.activeSet.period.toNat)) = true ↔
        (k + 1) * ch.activeSet.period.toNat ≤ ticksSince now ch.frameStart) := fun k hk =>
    isReached_later hr (by
      have : k * ch.activeSet.period.toNat ≤ _ := Nat.mul_le_mul_right ch.activeSet.period.toNat hk
      change _ ≤ ticksSince now ch.frameStart / _ * _ at this
      rw [Nat.succ_mul]
      omega)
  have past : ∀ k < ch.framesPassed now,
      isReached now (later ch.frameStart ((k + 1) * ch.activeSet.period.toNat)) = true := fun k hk => by
    rw [hreach k hk.le]
    have : (k + 1) * ch.activeSet.period.toNat ≤ _ := Nat.mul_le_mul_right ch.activeSet.period.toNat hk
    change _ ≤ ticksSince now ch.frameStart / _ * _ at this
    omega
  have ahead : isReached now (later ch.frameStart ((ch.framesPassed now + 1) * ch.activeSet.period.toNat)) = false := by
    rw [← Bool.not_eq_true, hreach _ le_rfl, Nat.succ_mul]
    change ¬ticksSince now ch.frameStart / _ * _ + _ ≤ _
    omega
  rw [Channel.skipPassed_eq, skipFrames_eq hh he past ahead hf]

/-! ### SETGEN (R66, R167) -/

/-- The checks of a SETGEN on a channel of the station, in their order (R66). -/
theorem State.setgen_eq {r : SetgenRequest} {c : Fin 8} {s : State} (hc : r.channel = c.val) :
    s.setgen r =
      if s.isPairOdd c then (s, .paired, 0)
      else if s.settings.channels[c].mode ≠ .generator then (s, .badAction, 0)
      else if r.set.period.toNat < 2 ∨ r.set.period.toNat < r.set.high.toNat then (s, .badParam, 0)
      else (s.setChannel c (s.channels[c].takeSet r.set), .ok, if s.channels[c].generates then 1 else 0) := by
  obtain ⟨channel, set⟩ := r
  obtain rfl : channel = c.val := hc
  exact dif_pos c.isLt

/-- Settles O28: the first check that fails answers, and a set that passes is taken. -/
theorem setgenTakesSet : Obligations.SetgenTakesSet := by
  rintro s f period high hw ht rfl rfl
  have answered : ∀ {t code detail}, (s.receive f).setgen (parseSetgen f.payload) = (t, code, detail) →
      exec (.setgen f) s = .next (State.conclude .setgen f code detail t) := fun hb =>
    whenFormed_of_wellFormed hw (ht.command_eq (body := setgenBody f) hb)
  refine ⟨fun h8 => answered (dif_neg (Nat.not_lt.mpr h8)), fun c hc => ?_⟩
  have checks := State.setgen_eq (s := s.receive f) (r := parseSetgen f.payload) hc
  have even : s.isPairOdd c = false → ¬(s.receive f).isPairOdd c = true := fun h => Bool.eq_false_iff.mp h
  refine ⟨?_, fun hodd hmode h2 hhigh => ?_⟩
  · rintro code (⟨hodd, rfl⟩ | ⟨hodd, hmode, rfl⟩ | ⟨hodd, hmode, hset, rfl⟩)
    · exact answered (checks.trans (if_pos hodd))
    · exact answered (checks.trans ((if_neg (even hodd)).trans (if_pos hmode)))
    · exact answered (checks.trans ((if_neg (even hodd)).trans ((if_neg (not_not.mpr hmode)).trans (if_pos hset))))
  · have passed := checks.trans ((if_neg (even hodd)).trans
      ((if_neg (not_not.mpr hmode)).trans (if_neg (not_or.mpr ⟨Nat.not_lt.mpr h2, Nat.not_lt.mpr hhigh⟩))))
    have takes : (s.receive f).channels[c] = s.channels[c] := rfl
    simp only [takes, Channel.takeSet] at passed
    refine ⟨fun hs => answered (passed.trans ?_), fun hs => answered (passed.trans ?_)⟩
    · have hg : ¬s.channels[c].generates = true := fun h => Channel.generates_iff.mp h hs
      rw [if_neg hg, if_neg hg]
      rfl
    · have hg : s.channels[c].generates = true := Channel.generates_iff.mpr hs
      rw [if_pos hg, if_pos hg]
      rfl

end Sys2Proof.Machine
end

section
/-! RELEASE_HOLD (R76, R77, R172). -/

namespace Sys2Proof.Machine

section

variable (mask : Byte) (s : State)

/-- What a RELEASE_HOLD releases, it releases with the channel whose hold decides. -/
theorem State.releases_holder (c : Fin 8) : s.releases mask (s.holder c) = s.releases mask c := by
  have names : s.releaseNames mask (s.holder c) = s.releaseNames mask c := by
    cases hp : s.isPaired c with
    | false => rw [State.holder, if_neg (Bool.eq_false_iff.mp hp)]
    | true =>
      have he : s.isPaired (evenOf (pairOf c)) = true := by simpa only [State.isPaired, pairOf_evenOf] using hp
      simp only [State.holder, State.releaseNames, hp, he, pairOf_evenOf, if_true]
  simp only [State.releases, State.isHeld, State.holdsOnLoss, State.holder_holder, names]

theorem State.release_isHeld (c : Fin 8) : (s.release mask).1.isHeld c = (s.isHeld c && !s.releases mask c) := by
  have h : (s.release mask).1.isHeld c = ((s.release mask).1.channels[s.holder c].hold).isSome := rfl
  rw [h, State.release_channel, State.releases_holder, State.isHeld]
  cases s.releases mask c <;> simp

theorem State.releases_iff (c : Fin 8) :
    s.releases mask c = true ↔
      s.isHeld c = true ∧ s.releaseNames mask c = true ∧ (s.holdsOnLoss c = false ∨ s.inLock = true) := by
  simp [State.releases, and_assoc, and_left_comm]

theorem State.releases_of_isHeld {c : Fin 8} (h : s.isHeld c = false) : s.releases mask c = false := by
  simp [State.releases, h]

/-- What is named and still held afterwards stayed held for want of lock. -/
theorem State.staysHeld_iff (c : Fin 8) :
    s.staysHeld mask c = true ↔ s.releaseNames mask c = true ∧ (s.release mask).1.isHeld c = true := by
  rw [State.release_isHeld, State.staysHeld, State.releases]
  cases s.releaseNames mask c <;> cases s.isHeld c <;> cases s.holdsOnLoss c <;> cases s.inLock <;> decide

/-- The answer and the mask of R76, read off the holds before and after. -/
theorem State.release_eq :
    s.release mask =
      ((s.release mask).1,
        if ∃ c : Fin 8, s.releaseNames mask c = true ∧ (s.release mask).1.isHeld c = true then .unsynced else .ok,
        BitVec.ofNat 16 (maskOf fun c => s.isHeld c && !(s.release mask).1.isHeld c)) := by
  have named : (List.finRange 8).any (s.staysHeld mask) = true ↔
      ∃ c : Fin 8, s.releaseNames mask c = true ∧ (s.release mask).1.isHeld c = true := by
    simp only [List.any_eq_true, List.mem_finRange, true_and, State.staysHeld_iff]
  have gone : s.releases mask = fun c => s.isHeld c && !(s.release mask).1.isHeld c := by
    funext c
    rw [State.release_isHeld]
    cases hh : s.isHeld c with
    | false => exact s.releases_of_isHeld mask hh
    | true => simp
  refine Prod.ext rfl (Prod.ext (if_congr named rfl rfl) ?_)
  exact congrArg (fun g => BitVec.ofNat 16 (maskOf g)) gone

end

/-- Settles O29: the holder of a channel decides whether its hold goes, so the holds afterwards give the answer, the
mask and the pairs that go through the dead band. -/
theorem releaseHoldReleases : Obligations.ReleaseHoldReleases := by
  intro s f mask hw ht hp hl
  have formed : (Instr.releaseHold f).wellFormed = true := by simp [Instr.wellFormed, hw, hp, natAt, byteAt]
  have body : releaseHoldBody f (s.receive f) = (s.receive f).release mask := by
    rw [releaseHoldBody, hp]
    rfl
  refine ⟨((s.receive f).release mask).1, whenFormed_of_wellFormed formed
    (ht.command_eq (body.trans (State.release_eq mask (s.receive f)))), rfl, fun c => ?_, fun p d hd => ⟨?_, ?_⟩⟩
  · have channels : (s.receive f).channels[c] = s.channels[c] := rfl
    rw [State.release_channel, channels]
    cases hh : s.isHeld c with
    | false =>
      have free : s.channels[c].hold = none := by simpa [hl.isHeld_eq c] using hh
      simp only [free, ite_self]
    | true =>
      have : (s.receive f).releases mask c = true ↔
          s.releaseNames mask c = true ∧ (s.holdsOnLoss c = false ∨ s.inLock = true) :=
        ((s.receive f).releases_iff mask c).trans (and_iff_right hh)
      simp only [this]
  · intro he hh hgone
    have released : (s.receive f).releases mask (evenOf p) = true := by
      rw [State.release_isHeld, show (s.receive f).isHeld (evenOf p) = true from hh] at hgone
      simpa using hgone
    rw [State.release_pair, released, show (s.receive f).settings.pairs[p].enabled = true from he, hd]
    rfl
  · intro h
    have kept : ((s.receive f).settings.pairs[p].enabled && (s.receive f).releases mask (evenOf p)) = false := by
      obtain hoff | hfree | hheld := h
      · rw [show (s.receive f).settings.pairs[p].enabled = false from hoff, Bool.false_and]
      · rw [(s.receive f).releases_of_isHeld mask hfree, Bool.and_false]
      · rw [State.release_isHeld, Bool.and_eq_true, Bool.not_eq_true'] at hheld
        rw [hheld.2, Bool.and_false]
    rw [State.release_pair, kept]
    rfl

end Sys2Proof.Machine
end

section
/-! The configuration image, the end of its read, and the values in force (R52, R83, R181 to R185). -/

namespace Sys2Proof.Machine

/-! ### The bytes of the image (R181) -/

theorem byteOfBits_getLsbD (b : Byte) :
    byteOfBits (b.getLsbD 7) (b.getLsbD 6) (b.getLsbD 5) (b.getLsbD 4) (b.getLsbD 3) (b.getLsbD 2) (b.getLsbD 1)
      (b.getLsbD 0) = b := by
  revert b
  decide

/-- The bytes held are those whose bits were taken. -/
theorem bitsBytes_bytesBits (l : List Byte) : bitsBytes (bytesBits l) = l := by
  induction l with
  | nil => rfl
  | cons b rest ih => exact congrArg₂ List.cons (byteOfBits_getLsbD b) ih

/-! ### The end of the read (R79, R84, R184, R185) -/

theorem State.readComplete_iff (s : State) :
    s.readComplete = true ↔ s.station = .configuring ∧ s.reading = true ∧ s.localTime = 3168 := by
  simp [State.readComplete, configReadTicks, and_assoc]

theorem State.acceptImage_input (image : List Byte) (s : State) (i : Fin 4) :
    (s.acceptImage image).inputs[i] = { s.inputs[i] with level := s.inputPins[i], sampled := true } := by
  simp [State.acceptImage, State.initialInputs, State.initialChannels, State.endRead]

/-- Settles O54: the bits held are those of the image, and its check decides. -/
theorem configurationReadDecides : Obligations.ConfigurationReadDecides := by
  intro s image _ hbits hs hr ht
  have complete : s.readComplete = true := s.readComplete_iff.mpr ⟨hs, hr, ht⟩
  have held : bitsBytes s.imageBits = image := by rw [hbits, bitsBytes_bytesBits]
  have decided : exec .configReadEnd s =
      .next (if imagePasses image then s.acceptImage image else s.refuseImage) := by
    simp only [exec, execConfigReadEnd, complete, held, Bool.not_true, Bool.false_eq_true, if_false]
  refine ⟨fun hp => ?_, fun hp => ⟨s.acceptImage image, ?_, rfl, fun c => ?_, fun p => ?_, s.acceptImage_input image⟩⟩
  · rw [decided, hp]
    rfl
  · rw [decided, if_pos hp]
  · exact s.acceptImage_channel image c
  · rw [State.acceptImage_pair, State.acceptImage_settings]
    simp only [Bool.and_eq_true, Bool.not_eq_true']
    split <;> rfl

/-! ### The checks of an image (R182, R183) -/

theorem imageSum_eq (image : List Byte) : imageSum image = image.sum := List.foldl_eq_foldr.trans rfl

theorem inRange_iff {low n high : Nat} : inRange low n high = true ↔ low ≤ n ∧ n ≤ high := by simp [inRange]

/-- The values of an image that passes are legal (R182, R183). -/
theorem imageSettings_legal {image : List Byte} (h : imagePasses image = true) : (imageSettings image).Legal := by
  obtain ⟨hrange, hcons⟩ := Bool.and_eq_true_iff.mp h
  obtain ⟨hhigh, hpairs⟩ := (settingsConsistent_iff _).mp hcons
  simp only [imageInRange, Bool.and_eq_true, inRange_iff, List.all_eq_true, List.mem_finRange, forall_const] at hrange
  obtain ⟨⟨⟨⟨⟨⟨⟨⟨⟨⟨⟨⟨-, station⟩, -, rate⟩, settle⟩, listen⟩, window⟩, limit⟩, silence⟩, carrier⟩, blocks⟩, -⟩, -⟩, -⟩ := hrange
  refine ⟨station, rate, settle, listen, window, limit, silence, ?_, carrier, fun c => ⟨?_, hhigh c⟩,
    fun p => ⟨?_, hpairs p⟩, fun i => ?_⟩
  · exact Nat.le_of_lt_succ (byteAt image 10).isLt
  · have block := blocks c
    simp only [channelBlockFits, Bool.and_eq_true, inRange_iff] at block
    simpa [imageSettings, channelSettings] using block.2.1
  · have : (imageSettings image).pairs[p].deadBand = (byteAt image (pairOffset p + 1)).toNat := by
      simp [imageSettings, pairSettings, natAt]
    exact this ▸ Nat.le_of_lt_succ (byteAt image (pairOffset p + 1)).isLt
  · have : (imageSettings image).inputs[i].holdOff = (word16At image (inputOffset i + 1)).toNat := by
      simp [imageSettings, inputSettings]
    exact this ▸ Nat.le_of_lt_succ (word16At image (inputOffset i + 1)).isLt

/-- An image that passes bears the magic byte, the version and a sum of 0 (R182). -/
theorem imagePasses_marks {image : List Byte} (h : imagePasses image = true) :
    byteAt image 0 = 0xA7 ∧ byteAt image 1 = 1 ∧ image.sum = 0 := by
  obtain ⟨hrange, -⟩ := Bool.and_eq_true_iff.mp h
  simp only [imageInRange, Bool.and_eq_true, beq_iff_eq, imageSum_eq] at hrange
  obtain ⟨⟨⟨⟨⟨⟨⟨⟨⟨⟨⟨⟨⟨⟨magic, version⟩, sum⟩, -⟩, -⟩, -⟩, -⟩, -⟩, -⟩, -⟩, -⟩, -⟩, -⟩, -⟩, -⟩ := hrange
  exact ⟨magic, version, sum⟩

/-- Two lists of one sum do not differ in one byte alone. -/
theorem byteAt_of_sum_set {image : List Byte} {k : Nat} {b : Byte} (hk : k < image.length)
    (h : (image.set k b).sum = image.sum) : byteAt image k = b := by
  rw [List.sum_set', dif_pos hk, add_eq_left, neg_add_eq_zero] at h
  rw [byteAt, List.getD_eq_getElem _ _ hk, h]

/-! ### The values in force (R52, R83) -/

/-- No chain of updates takes the station out of CONFIGURING and CONFIG_FAULT, while it sends nothing there. -/
theorem Drives.receives {s₀ s : State} {steady : Bool} (h : Drives s₀ steady s) (hs : s.station.receives = true) :
    s₀.station.receives = true ∨ s₀.line.condition = .sending := by
  induction h with
  | start => exact .inl hs
  | apart h e hr ih => exact (hr hs).elim ih .inr
  | stir _ ih | channels _ _ _ _ ih | pairs _ _ _ _ ih | enterHold _ _ _ _ ih | release _ _ ih | followPairs _ ih => exact ih hs

/-- A station that sends nothing outside ACTIVE has come to its values by the read (R185). -/
theorem Drives.keeps_legal {s t : State} {steady : Bool} (h : Drives s steady t) (hq : s.QuietStationLaw)
    (hl : s.SettingsLaw) : t.SettingsLaw := by
  intro ht
  rw [h.settings_eq]
  obtain hr | hsend := h.receives ht
  · exact hl hr
  · have active : s.station = .active := by
      by_contra hna
      exact (hq.1 hna).2.1 hsend
    exact hl (by rw [active]; rfl)

/-- Settles O55: the byte sum tells one changed byte, and only a reset and the end of the read write the values. -/
theorem configuredValuesStayLegal : Obligations.ConfiguredValuesStayLegal := by
  refine ⟨fun image hp => ?_, fun image k b hp hk hb => ?_, fun s t hx => ?_⟩
  · obtain ⟨magic, version, sum⟩ := imagePasses_marks hp
    exact ⟨magic, version, sum, imageSettings_legal hp⟩
  · by_contra hset
    have hset : imagePasses (image.set k b) = true := by simpa using hset
    exact hb (byteAt_of_sum_set hk ((imagePasses_marks hset).2.2.trans (imagePasses_marks hp).2.2.symm))
  · obtain ⟨l, rfl | ⟨image, hr, hp, rfl⟩ | hd⟩ := step_drives hx
    · exact ⟨fun _ _ => nofun, .inr (.inl rfl)⟩
    · exact ⟨fun _ _ _ => imageSettings_legal hp, .inr (.inr ⟨State.station_of_readComplete hr, rfl⟩)⟩
    · exact ⟨hd.keeps_legal, .inl hd.settings_eq⟩

end Sys2Proof.Machine
end

section
/-! SUPPORT. The tag law, kept by every operation of the reaction table (R98). -/

namespace Sys2Proof.Machine

/-! ### The tag law (R98) -/

/-- The template that a REACT INSTALL writes has the tag sent. -/
theorem InstallRequest.reaction_tag {r : InstallRequest} {own n : Nat} {c : Fin 8} {v : Reaction}
    (h : r.reaction own n c = some v) : v.tag = r.tag := by
  unfold InstallRequest.reaction at h
  split at h
  · split at h <;> cases h
    rfl
  · cases h

namespace State.TagLaw

variable {s t : State}

/-- Slots with no tag but the one they held keep the law. -/
theorem of_tags (h : s.TagLaw) (ht : ∀ i : Fin 24, ∀ a ∈ t.slots[i], ∃ b ∈ s.slots[i], b.tag = a.tag) : t.TagLaw := by
  intro i j hij a ha b hb e
  obtain ⟨a', ha', ea⟩ := ht i a ha
  obtain ⟨b', hb', eb⟩ := ht j b hb
  exact h i j hij a' ha' b' hb' (ea.trans (e.trans eb.symm))

theorem congr (h : s.TagLaw) (e : t.slots = s.slots) : t.TagLaw := h.of_tags fun _ a ha => ⟨a, e ▸ ha, rfl⟩

/-- A slot may be written with a tag that no other slot holds. -/
theorem set (h : s.TagLaw) {i : Fin 24} {v : Option Reaction} (ht : t.slots = s.slots.set i v)
    (hv : ∀ a ∈ v, ∀ j : Fin 24, j ≠ i → ∀ b ∈ s.slots[j], b.tag ≠ a.tag) : t.TagLaw := by
  intro j k hjk a ha b hb
  rw [ht, getElem_set_fin] at ha hb
  split at ha <;> split at hb <;> rename_i hj hk
  · exact absurd (hj.symm.trans hk) hjk
  · exact (hv a ha k (Ne.symm hk) b hb).symm
  · exact hv b hb j (Ne.symm hj) a ha
  · exact h j k hjk a ha b hb

/-- An INSTALL is refused where another slot holds its tag (R98, R99). -/
theorem install (h : s.TagLaw) (n : Nat) (r : InstallRequest) : (s.install n r).1.TagLaw := by
  unfold State.install
  split
  · dsimp only
    split
    · exact h
    split <;> rename_i hr
    · exact h
    split <;> rename_i ht
    · exact h
    refine h.set (t := s.setSlot _ _) rfl fun a ha j hj b hb e => ht ?_
    obtain rfl := Option.mem_some_iff.mp ha
    have hb : s.slots[j] = some b := hb
    rw [State.tagElsewhere, List.any_eq_true]
    exact ⟨j, List.mem_finRange j, by simp [hj, hb, e, InstallRequest.reaction_tag hr]⟩
  · exact h

theorem removeReaction (h : s.TagLaw) (n : Nat) : (s.removeReaction n).1.TagLaw := by
  unfold State.removeReaction
  split
  · dsimp only
    split
    exacts [h.set (t := s.setSlot _ none) rfl fun _ ha => (Option.not_mem_none _ ha).elim, h]
  · exact h

theorem clearCounters (h : s.TagLaw) : s.clearCounters.TagLaw := by
  refine h.of_tags fun i a ha => ?_
  rw [State.clearCounters_slot] at ha
  obtain ⟨b, hb, rfl⟩ := Option.map_eq_some_iff.mp ha
  exact ⟨b, hb, rfl⟩

/-- A match writes its slot's hit count and last outcome, and no tag (R110). -/
theorem matchTaken (h : s.TagLaw) (m : Mark) {r : Reaction} {i : Fin 24} (hr : s.slots[i] = some r) :
    (s.matchTaken m r i).TagLaw := by
  refine h.set (t := s.matchTaken m r i) rfl fun a ha j hj b hb => ?_
  obtain rfl := Option.mem_some_iff.mp ha
  exact h j i hj b hb r hr

end State.TagLaw

/-- Every operation of the schedule and of the reaction table keeps the tag law. -/
theorem Plans.keeps_tags {s₀ s : State} (h : Plans s₀ s) (hl : s₀.TagLaw) : s.TagLaw := by
  induction h with
  | start => exact hl
  | apart h e ih => exact ih.congr (congrArg (·.2.1) e)
  | clear h hs hr ih => exact ih.congr hr
  | @fireReached u h ih =>
    obtain ⟨_, _, _, _, _, e⟩ := u.fireReached_touches
    exact ih.congr (by rw [e])
  | @removeEntries u h gone o ih =>
    obtain ⟨_, _, _, e⟩ := u.removeEntries_touches gone o
    exact ih.congr (by rw [e])
  | @arm u h n r ih =>
    obtain ⟨_, _, _, _, _, e⟩ := u.arm_touches n r
    exact ih.congr (by rw [e])
  | matchTaken h m r i hr ih => exact ih.matchTaken m hr
  | install h n r ih => exact ih.install n r
  | removeReaction h n ih => exact ih.removeReaction n
  | clearCounters h ih => exact ih.clearCounters

theorem State.PlansOrSettles.keeps_tags {s t : State} (h : s.PlansOrSettles t) (hl : s.TagLaw) : t.TagLaw := by
  obtain hp | ⟨order, -, rfl⟩ := h
  · exact hp.keeps_tags hl
  · obtain ⟨_, _, _, _, _, _, _, _, _, _, _, _, e⟩ := s.settle_touches order
    exact hl.congr (by rw [e]; rfl)

theorem exec_keeps_tags {i : Instr} {s t : State} (hx : exec i s = .next t) (h : s.TagLaw) : t.TagLaw := by
  obtain rfl | hp | ⟨shut, u, hp, rfl⟩ := exec_plans hx
  · intro i _ _ a ha
    simp [State.initial, State.reset] at ha
  · exact hp.keeps_tags h
  · have hu : u.TagLaw := hp.keeps_tags h
    exact Plans.start.duplicateFound.keeps_tags hu

end Sys2Proof.Machine
end

section
/-! The capture log's law, and every step keeps it and the tag law (R88, R89, R98). -/

namespace Sys2Proof.Machine

/-! ### The records and their numbers (R88, R89) -/

/-- What the log's law reads. -/
abbrev State.records (s : State) : List CaptureRecord × Word16 := (s.captureLog, s.markNumber)

/-- The records' mark numbers run without gaps to `n` minus 1. -/
abbrev NumberedTo (n : Word16) (l : List CaptureRecord) : Prop :=
  ∀ k (h : k < l.length), l[k].number = n - BitVec.ofNat 16 (l.length - k)

/-- The log's law, record by record. -/
theorem State.logLaw_iff (s : State) :
    s.LogLaw ↔ s.captureLog.length ≤ logLimit ∧ NumberedTo s.markNumber s.captureLog := by
  refine and_congr_right fun _ => ?_
  rw [List.ext_getElem_iff]
  simp [NumberedTo]

/-- The oldest record is discarded. -/
theorem NumberedTo.drop {n : Word16} {l : List CaptureRecord} (h : NumberedTo n l) : NumberedTo n (l.drop 1) := by
  intro k hk
  rw [List.length_drop] at hk ⊢
  rw [List.getElem_drop, h (1 + k) (by omega), show l.length - (1 + k) = l.length - 1 - k by omega]

/-- A record with the number that is next: the others are one place further behind the next. -/
theorem NumberedTo.snoc {n : Word16} {l : List CaptureRecord} (h : NumberedTo n l) {r : CaptureRecord}
    (hr : r.number = n) : NumberedTo (n + 1) (l ++ [r]) := by
  have behind : ∀ m, n + 1 - BitVec.ofNat 16 (m + 1) = n - BitVec.ofNat 16 m := fun m => by
    rw [BitVec.ofNat_add]
    exact add_sub_add_right_eq_sub ..
  intro k hk
  rw [List.length_append, List.length_singleton] at hk ⊢
  obtain hlt | rfl := Nat.lt_succ_iff_lt_or_eq.mp hk
  · rw [List.getElem_append_left hlt, h k hlt, Nat.succ_sub hlt.le, behind]
  · rw [List.getElem_concat_length rfl, hr, Nat.add_sub_cancel_left]
    exact (add_sub_cancel_right ..).symm

namespace State.LogLaw

variable {s t : State}

theorem congr (h : s.LogLaw) (e : t.records = s.records) : t.LogLaw := by
  obtain ⟨hl, hn⟩ := Prod.mk.inj e
  rw [State.LogLaw, hl, hn]
  exact h

theorem of_empty (h : t.captureLog = []) : t.LogLaw := by simp [State.LogLaw, h]

/-- A record with the station mark number enters the log, and the number advances (R88, R89). -/
theorem logCapture (h : s.LogLaw) {r : CaptureRecord} (hr : r.number = s.markNumber) : (s.logCapture r).LogLaw := by
  rw [State.logLaw_iff] at h ⊢
  obtain ⟨hlen, hnum⟩ := h
  unfold State.logCapture
  dsimp only
  rw [List.length_append, List.length_singleton]
  split
  · exact ⟨‹_›, hnum.snoc hr⟩
  · rw [List.length_drop]
    exact ⟨by unfold logLimit at *; omega, hnum.drop.snoc hr⟩

/-! ### The operations that end with the records as they were, or with none -/

theorem takeRestart : s.takeRestart.LogLaw := by
  obtain ⟨_, _, _, e⟩ := s.takeRestart_touches
  exact of_empty (by rw [e])

theorem duplicateFound (h : s.LogLaw) : s.duplicateFound.LogLaw := by
  have silenced : ∀ t : State, t.silence.records = t.records := fun t => by
    obtain ⟨_, _, _, e⟩ := t.silence_touches
    rw [e]
  unfold State.duplicateFound
  dsimp only
  split
  case h_1 | h_2 => exact h.congr (silenced _)
  all_goals exact h

theorem arrive (h : s.LogLaw) (kind : TxKind) (d : Nat) (q : BitVec 4) (p : List Byte) (r : Bool) :
    (s.arrive kind d q p r).LogLaw := by
  obtain ⟨_, _, _, e⟩ := s.arrive_touches kind d q p r
  exact h.congr (by rw [e])

theorem reply (h : s.LogLaw) (k : FrameKind) (f : Frame) (c : ResultCode) (dup : Bool) (d : Word16) (r : Bool) :
    (s.reply k f c dup d r).LogLaw := by
  obtain ⟨_, _, _, e⟩ := s.reply_touches k f c dup d r
  exact h.congr (by rw [e])

theorem fireReached (h : s.LogLaw) : s.fireReached.LogLaw := by
  obtain ⟨_, _, _, _, _, e⟩ := s.fireReached_touches
  exact h.congr (by rw [e])

theorem removeEntries (h : s.LogLaw) (gone : Entry → Bool) (o : NoticeOutcome) : (s.removeEntries gone o).LogLaw := by
  obtain ⟨_, _, _, e⟩ := s.removeEntries_touches gone o
  exact h.congr (by rw [e])

theorem takeMark (h : s.LogLaw) (m : Mark) : (s.takeMark m).LogLaw := by
  obtain ⟨_, _, _, _, _, _, e⟩ := s.takeMark_touches m
  exact h.congr (by rw [e])

theorem distribute (h : s.LogLaw) (r : CaptureRecord) (first : Bool) : (s.distribute r first).LogLaw := by
  obtain ⟨_, _, _, _, _, _, e⟩ := s.distribute_touches r first
  exact h.congr (by rw [e])

theorem edgeOfInterest (h : s.LogLaw) (i : Fin 4) (e : Edge) (first : Bool) : (s.edgeOfInterest i e first).LogLaw := by
  have logged := State.LogLaw.logCapture (s := s.openHoldOff i) h (r := (s.openHoldOff i).captureRecord i e) rfl
  unfold State.edgeOfInterest
  repeat' split
  exacts [h, logged.distribute _ _, h]

theorem captureEdge (h : s.LogLaw) {i : Fin 4} {e : Edge} {first : Bool} (hx : execCaptureEdge i e first s = .next t) :
    t.LogLaw := by
  cases hx
  have levelled : (s.setLevel i (levelAfter e)).LogLaw := h
  repeat' split
  exacts [h, h, levelled.edgeOfInterest i e first, h]

theorem settlePoint (h : s.LogLaw) {order : List SettleAct} (hx : execSettlePoint order s = .next t) : t.LogLaw := by
  obtain ⟨-, rfl⟩ := whenFormed_eq_next.mp hx
  obtain ⟨_, _, _, _, _, _, _, _, _, _, _, _, e⟩ := s.settle_touches order
  split
  exacts [h.congr (by rw [e]; rfl), h]

/-! ### The hand-over of a frame, and the decoder -/

theorem handOver (h : s.LogLaw) {f : Frame} {next : State → State} (hn : ∀ {t : State}, t.LogLaw → (next t).LogLaw) :
    (s.handOver f next).LogLaw := by
  obtain ⟨-, e⟩ | ⟨-, -, e⟩ | ⟨-, -, e⟩ := State.handOver_cases f next s <;> rw [e]
  exacts [h, h.duplicateFound, hn (t := s.receive f) h]

/-- What the decoder needs of a command's payload check and dispatch. -/
abbrev Body (body : State → State × ResultCode × Word16) : Prop := ∀ {t : State}, t.LogLaw → (body t).1.LogLaw

theorem decode (h : s.LogLaw) (kind : CommandKind) (f : Frame) {body : State → State × ResultCode × Word16}
    {conclude : ResultCode → Word16 → State → State} (hb : Body body)
    (hc : ∀ {c d} {t : State}, t.LogLaw → (conclude c d t).LogLaw) : (s.decode kind f body conclude).LogLaw := by
  obtain ⟨-, e⟩ | ⟨-, -, e⟩ | ⟨-, -, r, -, e⟩ | ⟨-, -, -, e⟩ := State.decode_cases kind f body conclude s <;> rw [e]
  exacts [h, h, reply (s := s.countRepeat) h .., hc (hb h)]

theorem command (h : s.LogLaw) (kind : CommandKind) {f : Frame} {body : State → State × ResultCode × Word16}
    (hb : Body body) : (s.command kind f body (State.answer kind f)).LogLaw :=
  h.handOver fun ht => ht.decode kind f hb fun hu => hu.reply ..

theorem query (h : s.LogLaw) (topic per : Nat) (build : State → List (List Byte)) {f : Frame} :
    (s.query topic per build f).LogLaw := by
  refine h.handOver fun {t} ht => ?_
  dsimp only
  repeat' split
  exacts [ht, ht, ht, ht.arrive ..]

/-! ### The bodies of the commands -/

theorem armBody (f : Frame) : Body (armBody f) := by
  intro t h
  unfold Machine.armBody
  dsimp only
  split
  · split <;> exact h
  · rename_i r _
    obtain ⟨_, _, _, _, _, e⟩ := t.arm_touches f.sender r
    have armed : (t.arm f.sender r).1.LogLaw := h.congr (by rw [e])
    split <;> exact armed

theorem cancelByTagBody (f : Frame) : Body (cancelByTagBody f) := by
  intro t h
  unfold Machine.cancelByTagBody
  split
  exacts [h, h.removeEntries ..]

theorem cancelByChannelBody (f : Frame) : Body (cancelByChannelBody f) := by
  intro t h
  unfold Machine.cancelByChannelBody
  repeat' split
  exacts [h, h.removeEntries .., h]

theorem flushBody (f : Frame) : Body (flushBody f) := by
  intro t h
  unfold Machine.flushBody
  split
  exacts [h, h.removeEntries ..]

theorem setgenBody (f : Frame) : Body (setgenBody f) := by
  intro t h
  obtain ⟨_, e⟩ := t.setgen_touches (parseSetgen f.payload)
  exact h.congr (by rw [Machine.setgenBody, e])

theorem installBody (f : Frame) : Body (installBody f) := by
  intro t h
  unfold Machine.installBody
  split
  · exact h
  · rename_i r _
    obtain ⟨_, e⟩ := t.install_touches f.sender r
    have installed : (t.install f.sender r).1.LogLaw := h.congr (by rw [e])
    exact installed

theorem removeBody (f : Frame) : Body (removeBody f) := by
  intro t h
  unfold Machine.removeBody
  split
  · exact h
  · rename_i n _
    obtain ⟨_, e⟩ := t.removeReaction_touches n
    have removed : (t.removeReaction n).1.LogLaw := h.congr (by rw [e])
    exact removed

theorem releaseHoldBody (f : Frame) : Body (releaseHoldBody f) := by
  intro t h
  unfold Machine.releaseHoldBody
  split <;> exact h

theorem clearCountersBody (f : Frame) : Body (clearCountersBody f) := by
  intro t h
  unfold Machine.clearCountersBody
  split <;> exact h

theorem restartBody (f : Frame) : Body (restartBody f) := by
  intro t h
  unfold Machine.restartBody
  split <;> exact h

theorem restartConclude (h : s.LogLaw) (was : Bool) (f : Frame) (c : ResultCode) (d : Word16) :
    (restartConclude was f c d s).LogLaw := by
  obtain e | ⟨-, -, e⟩ | ⟨-, -, -, e⟩ := restartConclude_cases was f c d s <;> rw [e]
  · exact h.reply ..
  · exact takeRestart
  · split
    exacts [h.reply .., takeRestart]

theorem takeMarkFrame (h : s.LogLaw) (f : Frame) : (s.takeMarkFrame f).LogLaw := by
  unfold State.takeMarkFrame
  repeat' split
  exacts [h.takeMark _, h, h]

theorem refuseTopic (h : s.LogLaw) (f : Frame) : (s.refuseTopic f).LogLaw := by
  unfold State.refuseTopic
  repeat' split
  exacts [h, h, reply (s := s.refusePayload.1) h ..]

/-! ### The rows -/

/-- A clean frame handed on by its row, with no step overtaken (R136). -/
theorem exec_frame (h : s.LogLaw) {i : Instr} {f : Frame} (hi : i.frame? = some f)
    (hd : ∀ k g o, i ≠ .duplicateNumberFrame k g (some o)) (hx : exec i s = .next t) : t.LogLaw := by
  cases i <;> simp only [Instr.frame?, Option.some.injEq, reduceCtorEq] at hi <;> obtain rfl := hi.symm
  case duplicateNumberFrame k o =>
    cases o with
    | some o => exact absurd rfl (hd _ _ o)
    | none =>
      change execDuplicateNumberFrame k f none s = .next t at hx
      unfold execDuplicateNumberFrame at hx
      dsimp only at hx
      split at hx
      · cases hx
      · split at hx <;> cases hx
        exacts [h, h.duplicateFound]
  all_goals obtain ⟨-, rfl⟩ := whenFormed_eq_next.mp hx
  case helloReceived | stampReceived => exact h.handOver id
  case markReceived => exact h.handOver (takeMarkFrame · f)
  case foreignAnswer => exact h.handOver id
  case commandForAnotherStation =>
    split
    exacts [h, h.handOver id]
  case arm => exact h.command _ (armBody f)
  case cancelByTag => exact h.command _ (cancelByTagBody f)
  case cancelByChannel => exact h.command _ (cancelByChannelBody f)
  case setgen => exact h.command _ (setgenBody f)
  case reactInstall => exact h.command _ (installBody f)
  case reactRemove => exact h.command _ (removeBody f)
  case releaseHold => exact h.command _ (releaseHoldBody f)
  case clearCounters => exact h.command _ (clearCountersBody f)
  case flushSchedule => exact h.command _ (flushBody f)
  case restart => exact h.handOver fun ht => ht.decode _ f (restartBody f) fun hu => hu.restartConclude ..
  case queryUnknownTopic => exact h.handOver (refuseTopic · f)
  all_goals exact h.query _ _ _

theorem deliver (h : s.LogLaw) {kind : FrameKind} {f : Frame} (hx : s.deliver kind f = .next t) : t.LogLaw := by
  obtain ⟨hf, hd⟩ := rowOf_frame? s.settings.station kind f
  exact h.exec_frame hf hd (State.deliver_eq_exec_rowOf .. ▸ hx)

theorem lineGoesQuiet (h : s.LogLaw) {cells : List Bool} {more first : Bool}
    (hx : execLineGoesQuiet cells more first s = .next t) : t.LogLaw := by
  unfold execLineGoesQuiet at hx
  split at hx
  · cases hx
    exact h
  split at hx
  · cases hx
    exact h
  obtain ⟨n, e, -⟩ | ⟨kind, f, u, v, -, -, hu, ⟨-, hd, e⟩ | ⟨-, hd, e⟩⟩ := State.endStretch_cases cells more first s
  all_goals
    rw [e] at hx
    cases hx
  · exact h
  · have delivered : v.LogLaw := deliver (s := u) (hu ▸ h) hd
    exact delivered
  · have quiet : u.beginQuiet.LogLaw := hu ▸ h
    exact quiet.deliver hd

theorem collision (h : s.LogLaw) (hx : execCollision s = .next t) : t.LogLaw := by
  cases hx
  split
  · split
    · exact h
    · rename_i f _
      split
      · change State.LogLaw (if f.restartReply then s.giveUp.takeRestart else s.giveUp)
        split
        exacts [takeRestart, h]
      · exact h
  · exact h

/-- A command that hands on no frame and is no reset. -/
theorem exec_event (h : s.LogLaw) {i : Instr} (hi : i.frame? = none) (hr : i ≠ .powerOn ∧ i ≠ .resetNAsserted)
    (hx : exec i s = .next t) : t.LogLaw := by
  cases i <;> simp only [Instr.frame?, reduceCtorEq] at hi
  case powerOn => exact absurd rfl hr.1
  case resetNAsserted => exact absurd rfl hr.2
  case settlePoint => exact h.settlePoint hx
  case captureEdge => exact h.captureEdge hx
  case lineGoesQuiet => exact h.lineGoesQuiet hx
  case collision => exact h.collision hx
  case resetNReleased =>
    obtain ⟨-, rfl⟩ := whenFormed_eq_next.mp hx
    split <;> exact h
  all_goals cases hx
  case entryDue => exact h.fireReached
  case configReadEnd =>
    obtain ⟨_, _, e⟩ := s.acceptImage_touches (bitsBytes s.imageBits)
    repeat' split
    exacts [h, h.congr (by rw [e]), h]
  case ownFrameCleanEnd =>
    repeat' split
    exacts [takeRestart, h, h]
  all_goals
    repeat' split
    all_goals exact h

/-- An overtaken step is taken as the row it is. -/
theorem takeOvertaken (h : s.LogLaw) {o : OvertakenStep} (hx : s.takeOvertaken o = .next t) : t.LogLaw := by
  cases o with
  | entryDue =>
    cases hx
    exact h.fireReached
  | settlePoint order => exact h.settlePoint hx
  | captureEdge => exact h.captureEdge hx
  | delivered kind f =>
    unfold State.takeOvertaken at hx
    dsimp only at hx
    split at hx <;> rename_i hf
    · cases hx
      exact h.duplicateFound
    · refine h.deliver (kind := kind) (f := f) ?_
      rwa [State.deliver, if_neg hf]

end State.LogLaw

theorem exec_keeps_log {i : Instr} {s t : State} (hx : exec i s = .next t) (h : s.LogLaw) : t.LogLaw := by
  by_cases hr : i = .powerOn ∨ i = .resetNAsserted
  · obtain rfl | rfl := hr <;> cases hx <;> exact .of_empty rfl
  cases hf : i.frame? with
  | none => exact h.exec_event hf (not_or.mp hr) hx
  | some f =>
    by_cases hd : ∃ k g o, i = .duplicateNumberFrame k g (some o)
    · obtain ⟨k, g, o, rfl⟩ := hd
      have hw : (Instr.duplicateNumberFrame k g (some o)).wellFormed = true := by
        by_contra hw
        rw [Bool.not_eq_true] at hw
        simp [exec, execDuplicateNumberFrame, hw] at hx
      obtain ⟨-, e⟩ | ⟨-, h', -⟩ | ⟨-, o', u, ho', hu, e⟩ := execDuplicateNumberFrame_cases s hw
      · cases e.symm.trans hx
        exact h
      · cases h'
      · cases ho'
        cases e.symm.trans hx
        have told : ∀ shut, State.LogLaw { s with queueShutFrom := shut } := fun _ => h
        have taken : u.LogLaw := (told _).takeOvertaken hu
        exact State.LogLaw.duplicateFound (s := { u with queueShutFrom := none }) taken
    · exact h.exec_frame hf (fun k g o h => hd ⟨k, g, o, h⟩) hx

/-- Settles O34: each operation of the capture unit and of the reaction table keeps its law, and a tick touches neither. -/
theorem stepsKeepLogAndTagLaws : Obligations.StepsKeepLogAndTagLaws := by
  intro s t hx
  unfold step at hx
  split at hx
  · exact ⟨fun h => exec_keeps_log hx h, fun h => exec_keeps_tags hx h⟩
  split at hx
  · exact ⟨fun h => exec_keeps_log hx h, fun h => exec_keeps_tags hx h⟩
  cases hx
  obtain ⟨_, _, _, _, e, -, -⟩ := s.tick_touches
  rw [e]
  exact ⟨id, id⟩

end Sys2Proof.Machine
end

section
/-! Edges on the capture inputs: which are suppressed, counted, or captured, and what a capture leaves (R84 to R91, R93). -/

namespace Sys2Proof.Machine

/-! ### Edges and levels (R84, R85) -/

theorem levelAfter_eq (e : Edge) : levelAfter e = (e == .rise) := by cases e <;> rfl

/-- A sample that finds the input at the other level is an edge, unless this tick's sample has been taken (R84). -/
theorem State.sees_iff {s : State} {i : Fin 4} {e : Edge} :
    s.sees i e = true ↔ s.station.samples = true ∧ s.inputs[i].level = (e == .fall) ∧ s.inputs[i].sampled = false := by
  simp only [State.sees, Bool.and_eq_true, Bool.not_eq_true', bne_iff_ne, and_assoc]
  have other : levelAfter e = !(e == .fall) := by cases e <;> rfl
  rw [other, ne_eq, Bool.not_eq_not]

/-- No edge is seen of a command to the level held, or of a second one in a tick. -/
theorem State.sees_eq_false {s : State} {i : Fin 4} {e : Edge}
    (h : s.inputs[i].level = (e == .rise) ∨ s.inputs[i].sampled = true) : s.sees i e = false := by
  rw [← Bool.not_eq_true, State.sees_iff]
  rintro ⟨-, hl, hs⟩
  obtain h | h := h
  · rw [hl] at h
    cases e <;> cases h
  · cases hs.symm.trans h

section

variable {s : State} {i : Fin 4} {e : Edge} (first : Bool)

theorem execCaptureEdge_unsampled (h : s.station.samples = false) :
    exec (.captureEdge i e first) s = .next (s.drivePin i (levelAfter e)) :=
  congrArg Host.Outcome.next (if_pos (by rw [h]; rfl))

/-- In a station that samples its inputs, an edge is of interest or sets the level, and anything else is no edge. -/
theorem execCaptureEdge_sampled (h : s.station.samples = true) :
    exec (.captureEdge i e first) s =
      .next
        (if !s.sees i e then s
          else if s.settings.inputs[i].mode.interested e then
            ((s.setLevel i (levelAfter e)).edgeOfInterest i e first).followPairs
          else s.setLevel i (levelAfter e)) :=
  congrArg Host.Outcome.next (if_neg (by rw [h]; nofun))

theorem execInputEdgeNotOfInterest_unsampled (h : s.station.samples = false) :
    exec (.inputEdgeNotOfInterest i e) s = .next (s.drivePin i (levelAfter e)) :=
  congrArg Host.Outcome.next (if_pos (by rw [h]; rfl))

theorem execInputEdgeNotOfInterest_sampled (h : s.station.samples = true) :
    exec (.inputEdgeNotOfInterest i e) s =
      .next
        (if s.sees i e && !s.settings.inputs[i].mode.interested e then s.setLevel i (levelAfter e)
          else s) :=
  congrArg Host.Outcome.next (if_neg (by rw [h]; nofun))

/-- An edge of interest is taken by the prescaler and the hold-off, and the pairs follow (R85, R86). -/
theorem execCaptureEdge_interested (hs : s.sees i e = true) (hi : s.settings.inputs[i].mode.interested e = true) :
    exec (.captureEdge i e first) s = .next ((s.setLevel i (levelAfter e)).edgeOfInterest i e first).followPairs := by
  rw [execCaptureEdge_sampled first (State.sees_iff.mp hs).1, hs, hi]
  rfl

/-- An edge of interest in a hold-off is suppressed (R86). -/
theorem State.edgeOfInterest_suppressed {u : Time} (h : s.inputs[i].holdOffEnd = some u) :
    s.edgeOfInterest i e first = s.setInput i { s.inputs[i] with suppressed := bump s.inputs[i].suppressed } :=
  if_pos (by rw [h]; rfl)

/-- An accepted edge opens a hold-off, and is captured at the prescaler's limit (R85, R86). -/
theorem State.edgeOfInterest_accepted (h : s.inputs[i].holdOffEnd = none) :
    s.edgeOfInterest i e first = if s.captures i then (s.openHoldOff i).capture i e first else s.openHoldOff i :=
  if_neg (by rw [h]; nofun)

/-- An accepted edge is captured exactly at the prescaler's limit (R85). -/
theorem State.captures_iff : s.captures i = true ↔ s.settings.inputs[i].mode.divisor ≤ s.inputs[i].prescale + 1 := by
  rw [State.captures, Bool.or_eq_true, decide_eq_true_iff, decide_eq_true_iff]
  exact or_iff_right_of_imp fun h => by omega

end

/-! ### What an input holds after its level is set (R84 to R86) -/

section

variable (s : State) (i : Fin 4) (level : Bool)

theorem State.setLevel_input :
    (s.setLevel i level).inputs[i] = { s.inputs[i] with level := level, sampled := true } :=
  (getElem_set_fin ..).trans (if_pos rfl)

theorem State.setInput_setLevel (v : CaptureInput) :
    (s.setLevel i level).setInput i v = (s.drivePin i level).setInput i v :=
  congrArg (fun inputs => ({ s.drivePin i level with inputs := inputs } : State)) (Vector.set_set ..)

/-- A hold-off as its setting says: none for 0 ticks (R86). -/
abbrev State.holdOff (s : State) (i : Fin 4) : Option Time :=
  if s.settings.inputs[i].holdOff = 0 then none else some (later s.localTime s.settings.inputs[i].holdOff)

theorem State.captures_setLevel : (s.setLevel i level).captures i = s.captures i := by
  rw [State.captures, State.setLevel_input]
  rfl

theorem State.openHoldOff_setLevel :
    (s.setLevel i level).openHoldOff i =
      (s.drivePin i level).setInput i
        { s.inputs[i] with
          level := level
          sampled := true
          holdOffEnd := s.holdOff i
          prescale :=
            if s.settings.inputs[i].mode.divisor = 1 then s.inputs[i].prescale
            else if s.settings.inputs[i].mode.divisor ≤ s.inputs[i].prescale + 1 then 0
            else s.inputs[i].prescale + 1 } := by
  rw [State.openHoldOff, State.setLevel_input, State.setInput_setLevel]
  rfl

end

/-- Settles O32: the edge's level is set, and no branch of the prescaler and the hold-off but a capture does more. -/
theorem edgesThatCaptureNothing : Obligations.EdgesThatCaptureNothing := by
  rintro s i e first _ _ rfl rfl
  have level := levelAfter_eq e
  refine ⟨fun hs hl hn => ?_, fun hs hno => ?_, fun hs => ?_, fun u hu hr => ?_⟩
  · have sees : s.sees i e = true := State.sees_iff.mpr ⟨hs, hl, hn⟩
    refine ⟨fun u hi hu => ?_, ?_, fun hi => ?_⟩
    · have held : (s.setLevel i (levelAfter e)).inputs[i].holdOffEnd = some u := by rw [State.setLevel_input, hu]
      rw [execCaptureEdge_interested first sees hi, State.edgeOfInterest_suppressed first held, State.setLevel_input,
        State.setInput_setLevel, level]
      rfl
    · rintro n rfl hmode hfree hshort
      have mode : s.settings.inputs[i].mode.interested .rise = true ∧ s.settings.inputs[i].mode.divisor = n := by
        obtain ⟨hm, rfl⟩ | ⟨hm, rfl⟩ := hmode <;> rw [hm] <;> exact ⟨rfl, rfl⟩
      have four : n ≠ 1 := by obtain ⟨-, rfl⟩ | ⟨-, rfl⟩ := hmode <;> decide
      have free : (s.setLevel i (levelAfter .rise)).inputs[i].holdOffEnd = none := by rw [State.setLevel_input, hfree]
      have short : ¬s.captures i = true := by rw [State.captures_iff, mode.2]; omega
      rw [execCaptureEdge_interested first sees mode.1, State.edgeOfInterest_accepted first free,
        State.captures_setLevel, if_neg short, State.openHoldOff_setLevel, mode.2, if_neg four, if_neg (by omega)]
      rfl
    · rw [execInputEdgeNotOfInterest_sampled hs, execCaptureEdge_sampled first hs, sees, hi, level]
      exact ⟨rfl, rfl⟩
  · rw [execInputEdgeNotOfInterest_sampled hs, execCaptureEdge_sampled first hs, State.sees_eq_false hno]
    exact ⟨rfl, rfl⟩
  · rw [execInputEdgeNotOfInterest_unsampled hs, execCaptureEdge_unsampled first hs, level]
    exact ⟨rfl, rfl⟩
  · exact congrArg Host.Outcome.next (if_pos (by rwa [State.holdOffEnds, hu]))

end Sys2Proof.Machine
end

section
/-! A captured edge: its record, its local mark and its MARK, and what else stays (R85 to R91). -/

namespace Sys2Proof.Machine

/-! ### What a mark and a capture's MARK leave (R90, R91, R150) -/

/-- No overrun of the log is counted, and outside ACTIVE no frame is queued. -/
abbrev State.Unrecorded (s t : State) : Prop :=
  t.counters.logOverruns = s.counters.logOverruns ∧ t.station = s.station ∧ (s.station ≠ .active → t.queue = s.queue)

namespace State.Unrecorded

variable {s t : State}

theorem arrive (h : s.Unrecorded t) (kind : TxKind) (d : Nat) (q : BitVec 4) (p : List Byte) (r : Bool) :
    s.Unrecorded (t.arrive kind d q p r) := by
  obtain ⟨ho, hs, hq⟩ := h
  have lost : ∀ k, (t.counters.countLost k).logOverruns = s.counters.logOverruns := fun k => by cases k <;> exact ho
  have active : t.station = .active → s.station ≠ .active → ∀ l, l = s.queue := fun ha hn => absurd (hs.symm.trans ha) hn
  obtain ⟨ha, -, -, e⟩ | ⟨ha, -, -, v, -, e⟩ | ⟨-, e⟩ := State.arrive_cases kind d q p r t <;> rw [e]
  exacts [⟨ho, hs, fun hn => active ha hn _⟩, ⟨lost _, hs, fun hn => active ha hn _⟩, ⟨lost _, hs, hq⟩]

theorem notice (e : Entry) (o : NoticeOutcome) (t : State) (h : s.Unrecorded t) : s.Unrecorded (t.notice e o) := by
  unfold State.notice
  split
  exacts [h, h.arrive ..]

theorem drop (e : Entry) (t : State) (h : s.Unrecorded t) : s.Unrecorded (t.drop e) := notice _ _ _ h

theorem takeAction (c : Fin 8) (a : Action) (p : Word16) (t : State) (h : s.Unrecorded t) :
    s.Unrecorded (t.takeAction c a p) := by
  cases a
  case pulse | burst =>
    unfold State.takeAction
    dsimp only
    split <;> exact h
  all_goals exact h

theorem afterFiring (e : Entry) (t : State) (h : s.Unrecorded t) : s.Unrecorded (t.afterFiring e) := by
  unfold State.afterFiring
  dsimp only
  split
  exacts [h, notice _ _ _ h]

theorem fireReached (h : s.Unrecorded t) : s.Unrecorded t.fireReached :=
  foldl_fire_keeps (fun e _ => fire_keeps drop (fun _ _ h => h) takeAction afterFiring e) h

theorem armEntry (h : s.Unrecorded t) (e : Entry) : s.Unrecorded (t.armEntry e) := by
  unfold State.armEntry
  split
  exacts [fireReached (t := t.insert e) h, h]

theorem replaceEntry (h : s.Unrecorded t) (n : Nat) (tag : Word16) : s.Unrecorded (t.replaceEntry n tag) := by
  have noticed : ∀ (l : List Entry) (u : State), s.Unrecorded u →
      s.Unrecorded (l.foldl (fun v e => v.notice e .replaced) u) := by
    intro l
    induction l with
    | nil => exact fun _ hu => hu
    | cons e rest ih => exact fun u hu => ih _ (notice e _ u hu)
  exact noticed _ _ h

theorem runMatch (h : s.Unrecorded t) (m : Mark) (r : Reaction) (i : Fin 24) : s.Unrecorded (t.runMatch m r i).1 := by
  obtain ⟨o, -, e⟩ | e := t.runMatch_cases m r i <;> rw [e]
  · exact h
  · rw [State.armReaction_eq]
    repeat' split
    exacts [h, (h.replaceEntry ..).armEntry _, h, h.armEntry _]

theorem takeMark (h : s.Unrecorded t) (m : Mark) : s.Unrecorded (t.takeMark m) := by
  unfold State.takeMark
  generalize List.finRange 24 = l
  induction l generalizing t with
  | nil => exact h
  | cons i rest ih =>
    refine ih ?_
    change s.Unrecorded (t.markSlot m i)
    obtain ⟨-, e⟩ | ⟨r, -, -, e⟩ := State.markSlot_cases m i t <;> rw [e]
    · exact h
    · obtain ⟨ho, hs, hq⟩ := h.runMatch m r i
      have counted : ∀ o, ((t.runMatch m r i).1.counters.countOutcome o).logOverruns = s.counters.logOverruns :=
        fun o => by cases o <;> exact ho
      exact ⟨counted _, hs, hq⟩

theorem publishMark (h : s.Unrecorded t) (r : CaptureRecord) : s.Unrecorded (t.publishMark r) := by
  unfold State.publishMark
  split
  exacts [h.arrive .., h]

theorem distribute (h : s.Unrecorded t) (r : CaptureRecord) (first : Bool) : s.Unrecorded (t.distribute r first) := by
  unfold State.distribute State.handLocalMark
  repeat' split
  exacts [(h.publishMark r).takeMark _, (h.takeMark _).publishMark r, h.takeMark _, h, h, h]

end State.Unrecorded

/-! ### Where a record goes (R90, R91) -/

/-- The mark that a record is to the reaction table (R90). -/
abbrev CaptureRecord.mark (r : CaptureRecord) (own : Nat) : Mark := ⟨own, r.input, r.edge, r.time, r.number, r.sync⟩

section

variable {s : State} {r : CaptureRecord} (first : Bool)

theorem State.distribute_silenced (h : s.station = .silenced) : s.distribute r first = s := by
  rw [State.distribute, h]

theorem State.distribute_listening (h : s.station = .listening) :
    s.distribute r first = s.takeMark (r.mark s.settings.station) := by
  rw [State.distribute, h]
  rfl

/-- In ACTIVE a record is published beside its local mark (R90). -/
theorem State.distribute_active (h : s.station = .active) :
    s.distribute r first =
      if first then (s.publishMark r).takeMark (r.mark s.settings.station)
      else (s.takeMark (r.mark s.settings.station)).publishMark r := by
  have own : (s.publishMark r).settings = s.settings := by
    obtain ⟨_, _, _, e⟩ := s.publishMark_touches r
    rw [e]
  rw [State.distribute, h, State.handLocalMark, State.handLocalMark, own]

/-- A mark leaves the configured values. -/
theorem State.takeMark_settings (m : Mark) (s : State) : (s.takeMark m).settings = s.settings := by
  obtain ⟨_, _, _, _, _, _, e⟩ := s.takeMark_touches m
  rw [e]

/-- In ACTIVE an input that does not publish gives the local mark alone. -/
theorem State.distribute_unpublished (h : s.station = .active) (hp : s.settings.inputs[r.input].publish = false) :
    s.distribute r first = s.takeMark (r.mark s.settings.station) := by
  have kept : ∀ t : State, t.settings = s.settings → t.publishMark r = t := fun t ht => if_neg (by rw [ht, hp]; nofun)
  rw [State.distribute_active first h, kept s rfl, kept _ (State.takeMark_settings ..), ite_self]

/-- In ACTIVE the MARK of a publishing input is handed over, before the local mark or after it (R90, R91). -/
theorem State.distribute_published (h : s.station = .active) (hp : s.settings.inputs[r.input].publish = true) :
    s.distribute r first =
      if first then (s.arrive .mark 31 0 (markPayload r) false).takeMark (r.mark s.settings.station)
      else (s.takeMark (r.mark s.settings.station)).arrive .mark 31 0 (markPayload r) false := by
  have published : ∀ t : State, t.settings = s.settings →
      t.publishMark r = t.arrive .mark 31 0 (markPayload r) false := fun t ht => if_pos (by rw [ht, hp])
  rw [State.distribute_active first h, published s rfl, published _ (State.takeMark_settings ..)]

end

/-- What the distribution of a record leaves: no overrun is counted, a frame is queued in ACTIVE alone, and in SILENCED
nothing changes (R90, R150). -/
theorem State.distribute_leaves (r : CaptureRecord) (first : Bool) (s : State) :
    ∃ slots schedule channels queue age counters,
      s.distribute r first =
        { s with
          slots := slots
          schedule := schedule
          channels := channels
          queue := queue
          nextAge := age
          counters := counters } ∧
      counters.logOverruns = s.counters.logOverruns ∧ (s.station ≠ .active → queue = s.queue) ∧
      (s.station = .silenced →
        slots = s.slots ∧ schedule = s.schedule ∧ channels = s.channels ∧ queue = s.queue ∧ age = s.nextAge) := by
  obtain ⟨overruns, -, unqueued⟩ := State.Unrecorded.distribute (s := s) (t := s) ⟨rfl, rfl, fun _ => rfl⟩ r first
  obtain ⟨slots, schedule, channels, queue, age, counters, e⟩ := s.distribute_touches r first
  rw [e] at overruns unqueued
  refine ⟨slots, schedule, channels, queue, age, counters, e, overruns, unqueued, fun hc => ?_⟩
  have same := e.symm.trans (State.distribute_silenced first hc)
  exact ⟨congrArg State.slots same, congrArg State.schedule same, congrArg State.channels same,
    congrArg State.queue same, congrArg State.nextAge same⟩

/-- The MARK's payload, byte by byte (R91, R197). -/
theorem markPayload_eq (r : CaptureRecord) :
    markPayload r =
      [BitVec.ofNat 8 r.input.val, if r.edge = .rise then 0 else 1] ++ bytes32 r.time ++ bytes16 r.number ++
        [BitVec.ofNat 8 (syncCode r.sync)] := by
  obtain ⟨_, e, _, _, _⟩ := r
  cases e <;> rfl

/-- An edge at the prescaler's limit is captured: its level is set, its hold-off opened, and its record logged. -/
theorem execCaptureEdge_captured {s : State} {i : Fin 4} {e : Edge} (first : Bool) (hs : s.sees i e = true)
    (hi : s.settings.inputs[i].mode.interested e = true) (hfree : s.inputs[i].holdOffEnd = none)
    (hlimit : s.settings.inputs[i].mode.divisor ≤ s.inputs[i].prescale + 1) :
    exec (.captureEdge i e first) s =
      .next (State.distribute (s.captureRecord i e) first
        (State.logCapture (s.captureRecord i e) ((s.setLevel i (levelAfter e)).openHoldOff i))).followPairs := by
  have free : (s.setLevel i (levelAfter e)).inputs[i].holdOffEnd = none := by rw [State.setLevel_input, hfree]
  rw [execCaptureEdge_interested first hs hi, State.edgeOfInterest_accepted first free, State.captures_setLevel,
    if_pos (State.captures_iff.mpr hlimit)]
  rfl

/-- Settles O33: the captured edge's record is logged, and then distributed by the station state. -/
theorem capturedEdgeIsLogged : Obligations.CapturedEdgeIsLogged := by
  rintro s logged i e first mark payload hs hl hn hi hfree hlimit hmark hpayload hlogged
  obtain ⟨r, hr⟩ : ∃ r, r = s.captureRecord i e := ⟨_, rfl⟩
  have entered : State.logCapture r ((s.setLevel i (levelAfter e)).openHoldOff i) = logged := by
    rw [State.openHoldOff_setLevel, if_pos hlimit, levelAfter_eq, hlogged, ← List.drop_one, hr]
    rfl
  have captured := execCaptureEdge_captured first (State.sees_iff.mpr ⟨hs, hl, hn⟩) hi hfree hlimit
  have station : logged.station = s.station := by rw [hlogged]
  have settings : logged.settings = s.settings := by rw [hlogged]
  have input : r.input = i := by rw [hr]; rfl
  have hmark : mark = r.mark logged.settings.station := by rw [hmark, settings, hr]; rfl
  have hpayload : payload = markPayload r := by rw [hpayload, markPayload_eq, hr]; rfl
  rw [← hr, entered] at captured
  rw [captured, hmark, hpayload, ← settings, ← station]
  refine ⟨fun hc => ?_, fun hc => ?_, fun hc hp => ?_, _, rfl, ?_⟩
  · rw [State.distribute_silenced first hc]
  · obtain hc | ⟨hc, hp⟩ := hc
    · rw [State.distribute_listening first hc]
    · rw [State.distribute_unpublished first hc (input.symm ▸ hp)]
  · rw [State.distribute_published first hc (input.symm ▸ hp)]
  · obtain ⟨slots, schedule, channels, queue, age, counters, left, overruns, unqueued, stays⟩ :=
      logged.distribute_leaves r first
    rw [left]
    subst hlogged
    refine ⟨rfl, rfl, rfl, rfl, overruns, fun hc => ?_, unqueued, ⟨rfl, rfl, rfl, rfl, rfl, rfl, rfl, rfl, rfl⟩,
      ⟨rfl, rfl, rfl, rfl, rfl, rfl, rfl⟩, ⟨rfl, rfl⟩, rfl, rfl, rfl⟩
    obtain ⟨hslots, hschedule, hchannels, hqueue, hage⟩ := stays hc
    exact ⟨hslots, hschedule, hchannels, hqueue, rfl, hage⟩

end Sys2Proof.Machine
end

section
/-! A received mark: which slots take it, in which order, and what it leaves of each (R92, R103, R110). -/

namespace Sys2Proof.Machine

/-! ### One slot (R103, R110) -/

/-- A match ends with an outcome (R110). -/
theorem State.runMatch_outcome (m : Mark) (r : Reaction) (i : Fin 24) (s : State) : (s.runMatch m r i).2 ≠ .none := by
  rw [State.runMatch_eq, State.armReaction_eq]
  repeat' split
  all_goals nofun

section

variable {s : State} {i j : Fin 24} (m : Mark)

theorem State.markSlot_of_no_match (h : ∀ r ∈ s.slots[i], r.matchesMark m = false) : s.markSlot m i = s := by
  obtain ⟨-, e⟩ | ⟨r, hr, hm, -⟩ := State.markSlot_cases m i s
  · exact e
  · exact absurd ((h r hr).symm.trans hm) nofun

theorem State.markSlot_of_match {r : Reaction} (hr : s.slots[i] = some r) (hm : r.matchesMark m = true) :
    s.markSlot m i = s.matchTaken m r i := by
  obtain ⟨h, -⟩ | ⟨r', hr', -, e⟩ := State.markSlot_cases m i s
  · exact absurd ((h r hr).symm.trans hm) nofun
  · cases hr.symm.trans hr'
    exact e

theorem State.markSlot_slot_ne (h : i ≠ j) : (s.markSlot m i).slots[j] = s.slots[j] := by
  obtain ⟨-, e⟩ | ⟨r, -, -, e⟩ := State.markSlot_cases m i s <;> rw [e]
  exact (getElem_set_fin s.slots i j _).trans (if_neg h)

/-- Slots that take the mark leave every other. -/
theorem State.foldl_markSlot_slot {l : List (Fin 24)} (h : i ∉ l) :
    (l.foldl (fun t k => t.markSlot m k) s).slots[i] = s.slots[i] := by
  induction l generalizing s with
  | nil => rfl
  | cons k rest ih =>
    obtain ⟨hk, hrest⟩ := not_or.mp (List.mem_cons.not.mp h)
    exact (ih hrest).trans (State.markSlot_slot_ne m (Ne.symm hk))

/-! ### The table (R103) -/

/-- What the table's mark leaves of a slot is what the slot's own turn leaves of it. -/
theorem State.takeMark_slot (s : State) (i : Fin 24) :
    ∃ t : State, t.slots[i] = s.slots[i] ∧ (s.takeMark m).slots[i] = (t.markSlot m i).slots[i] := by
  obtain ⟨l₁, l₂, hl⟩ := List.append_of_mem (List.mem_finRange i)
  have hn := List.nodup_finRange 24
  rw [hl] at hn
  obtain ⟨-, hr, hd⟩ := List.nodup_append.mp hn
  refine ⟨l₁.foldl (fun t k => t.markSlot m k) s,
    State.foldl_markSlot_slot m fun h => hd i h i (List.mem_cons_self ..) rfl, ?_⟩
  rw [State.takeMark, hl, List.foldl_append]
  exact State.foldl_markSlot_slot m (List.nodup_cons.mp hr).1

/-- A slot that is empty or does not match stays. -/
theorem State.takeMark_slot_kept (h : ∀ r ∈ s.slots[i], r.matchesMark m = false) :
    (s.takeMark m).slots[i] = s.slots[i] := by
  obtain ⟨t, ht, e⟩ := s.takeMark_slot m i
  rw [e, State.markSlot_of_no_match m (ht ▸ h), ht]

/-- A matching slot has its hit counted, and its match's outcome as its last (R110). -/
theorem State.takeMark_slot_matched {r : Reaction} (hr : s.slots[i] = some r) (hm : r.matchesMark m = true) :
    ∃ o, o ≠ LastOutcome.none ∧ (s.takeMark m).slots[i] = some { r with hits := bump r.hits, lastOutcome := o } := by
  obtain ⟨t, ht, e⟩ := s.takeMark_slot m i
  refine ⟨_, t.runMatch_outcome m r i, ?_⟩
  rw [e, State.markSlot_of_match m (ht.trans hr) hm]
  exact (getElem_set_fin t.slots i i _).trans (if_pos rfl)

/-- The slots that match take the mark, one after another, and no slot's turn changes whether another matches (R103). -/
theorem State.foldl_markSlot_eq {l : List (Fin 24)} (hn : l.Nodup) {t : State} (ht : ∀ i ∈ l, t.slots[i] = s.slots[i]) :
    l.foldl (fun t i => t.markSlot m i) t =
      (l.filter fun i => s.slots[i].any (·.matchesMark m)).foldl
        (fun t i => (s.slots[i].map fun r => t.matchTaken m r i).getD t) t := by
  induction l generalizing t with
  | nil => rfl
  | cons i rest ih =>
    obtain ⟨hi, hrest⟩ := List.nodup_cons.mp hn
    obtain ⟨hti, htr⟩ := List.forall_mem_cons.mp ht
    have later : ∀ j ∈ rest, (t.markSlot m i).slots[j] = s.slots[j] := fun j hj =>
      (State.markSlot_slot_ne m (ne_of_mem_of_not_mem hj hi).symm).trans (htr j hj)
    rw [List.foldl_cons, ih hrest later, List.filter_cons]
    split <;> rename_i hm
    · obtain ⟨r, hr, hm⟩ := (Option.any_eq_true ..).mp hm
      rw [List.foldl_cons, State.markSlot_of_match m (hti.trans hr) hm, hr]
      rfl
    · rw [State.markSlot_of_no_match m fun r hr => ?_]
      rw [Option.any_eq_true] at hm
      exact Bool.eq_false_iff.mpr fun h => hm ⟨r, hti.symm.trans hr, h⟩

theorem State.takeMark_eq (s : State) :
    s.takeMark m =
      ((List.finRange 24).filter fun i => s.slots[i].any (·.matchesMark m)).foldl
        (fun t i => (s.slots[i].map fun r => t.matchTaken m r i).getD t) s :=
  State.foldl_markSlot_eq m (List.nodup_finRange 24) fun _ _ => rfl

/-- Where one slot alone matches, its match is all that the mark does. -/
theorem State.takeMark_alone {r : Reaction} (hr : s.slots[i] = some r) (hm : r.matchesMark m = true)
    (hj : ∀ j : Fin 24, j ≠ i → ∀ q ∈ s.slots[j], q.matchesMark m = false) : s.takeMark m = s.matchTaken m r i := by
  have alone : ((List.finRange 24).filter fun j => s.slots[j].any (·.matchesMark m)) = [i] := by
    have matching : ∀ j : Fin 24, s.slots[j].any (·.matchesMark m) = (j == i) := fun j => by
      by_cases h : j = i
      · subst h
        rw [hr, beq_self_eq_true]
        exact hm
      · rw [beq_false_of_ne h, Option.any_eq_false]
        exact fun q hq => by simpa using hj j h q hq
    rw [List.filter_congr fun j _ => matching j, List.filter_beq,
      List.count_eq_one_of_mem (List.nodup_finRange 24) (List.mem_finRange i)]
    rfl
  rw [State.takeMark_eq, alone]
  exact congrArg (fun o => (Option.map (fun r => s.matchTaken m r i) o).getD s) hr

end

/-! ### A MARK frame (R92) -/

/-- A MARK from another station goes to the roster controller and then to the capture unit (R92, R136). -/
theorem exec_markReceived {s : State} {f : Frame} (hw : f.wellFormed .mark = true) (hf : f.sender ≠ s.settings.station)
    (hr : s.station.receives = true) : exec (.markReceived f) s = .next ((s.receive f).takeMarkFrame f).followPairs := by
  refine whenFormed_of_wellFormed hw ?_
  rw [State.handOver, if_neg (by rw [hr]; nofun), if_neg hf]

section

variable {s : State} {f : Frame}

theorem State.takeMarkFrame_undelivered (h : s.addressed f = false ∨ s.station = .silenced) : s.takeMarkFrame f = s := by
  refine if_neg fun ⟨ha, hs⟩ => ?_
  obtain h | h := h
  · exact absurd (h.symm.trans ha) nofun
  · rw [h] at hs
    exact hs.elim nofun nofun

theorem State.takeMarkFrame_mark (hs : s.station = .active ∨ s.station = .listening) (ha : s.addressed f = true)
    {m : Mark} (hm : parseMark f.sender f.payload = some m) : s.takeMarkFrame f = s.takeMark m :=
  (if_pos ⟨ha, hs.symm⟩).trans (by rw [hm])

/-- A bad mark is counted (R92). -/
theorem State.takeMarkFrame_bad (hs : s.station = .active ∨ s.station = .listening) (ha : s.addressed f = true)
    (hm : parseMark f.sender f.payload = none) :
    s.takeMarkFrame f = { s with counters := { s.counters with badMarks := bump s.counters.badMarks } } :=
  (if_pos ⟨ha, hs.symm⟩).trans (by rw [hm])

end

/-- Settles O35: the table's turns one by one, each slot's own turn, and the frame's way to them. -/
theorem markAdvancesMatchingSlots : Obligations.MarkAdvancesMatchingSlots := by
  refine ⟨fun s m => s.takeMark_eq m, fun n => ⟨rfl, rfl, rfl, rfl, rfl, rfl, rfl⟩, fun s f hw hf => ?_⟩
  have receives : s.station = .active ∨ s.station = .listening → s.station.receives = true := by
    rintro (h | h) <;> rw [h] <;> rfl
  have received : s.station = .active ∨ s.station = .listening → s.addressed f = true → ∀ m,
      parseMark f.sender f.payload = some m →
      exec (.markReceived f) s = .next ((s.receive f).takeMark m).followPairs := fun hs ha m hm => by
    rw [exec_markReceived hw hf (receives hs), State.takeMarkFrame_mark (s := s.receive f) hs ha hm]
  refine ⟨fun hr hd => ?_, fun m hs ha hm => ?_, fun m i r u o hs ha hm hr hi hj hu => ?_, fun hs ha hm => ?_⟩
  · rw [exec_markReceived hw hf hr, State.takeMarkFrame_undelivered (s := s.receive f) hd]
    exact State.SameOutputs.answers (s := s) ⟨rfl, rfl, rfl, rfl⟩ (.inr rfl)
  · have kept : ∀ i : Fin 24, (∀ q ∈ s.slots[i], q.matchesMark m = false) →
        ((s.receive f).takeMark m).slots[i] = s.slots[i] :=
      fun i h => State.takeMark_slot_kept (s := s.receive f) m h
    refine ⟨_, received hs ha m hm, fun i hi => ?_, fun i r hi => ⟨fun hno => ?_, fun hyes => ?_⟩, ?_⟩
    · rw [State.followPairs_slots, kept i (by rw [hi]; simp), hi]
    · rw [State.followPairs_slots, kept i (by rw [hi]; simpa using hno), hi]
    · rw [State.followPairs_slots]
      exact State.takeMark_slot_matched (s := s.receive f) m hi hyes
    · obtain ⟨_, _, _, _, _, _, e⟩ := (s.receive f).takeMark_touches m
      rw [e]
      exact ⟨⟨rfl, rfl, rfl, rfl, rfl, rfl, rfl, rfl, rfl⟩, ⟨rfl, rfl, rfl, rfl, rfl, rfl, rfl⟩, ⟨rfl, rfl, rfl, rfl⟩,
        rfl, rfl, rfl, rfl, rfl⟩
  · rw [received hs ha m hm, State.takeMark_alone (s := s.receive f) m hr hi hj, State.matchTaken, hu]
    rfl
  · rw [exec_markReceived hw hf (receives hs), State.takeMarkFrame_bad (s := s.receive f) hs ha hm]
    rfl

end Sys2Proof.Machine
end

section
/-! REACT INSTALL and REACT REMOVE: the fields and the tag that an INSTALL is checked for, the slot that a command
writes, and the occupancy it answers (R97 to R101, R168). -/

namespace Sys2Proof.Machine

/-! ### The fields of an INSTALL (R99, R197) -/

theorem reactionSourceOf_isSome_iff {n : Nat} : (reactionSourceOf n).isSome = true ↔ n = 255 ∨ 1 ≤ n ∧ n ≤ 30 := by
  rw [reactionSourceOf]
  split_ifs <;> simp <;> omega

theorem reactionInputOf_isSome_iff {n : Nat} : (reactionInputOf n).isSome = true ↔ n = 255 ∨ n ≤ 3 := by
  rw [reactionInputOf]
  split_ifs <;> simp <;> omega

theorem reactionGateOf_isSome_iff {input level : Nat} :
    (reactionGateOf input level).isSome = true ↔ input = 255 ∨ input ≤ 3 ∧ level ≤ 1 := by
  rw [reactionGateOf]
  split_ifs <;> simp <;> omega

theorem reactionNotifyOf_isSome_iff {own n : Nat} :
    (reactionNotifyOf own n).isSome = true ↔ n = 0 ∨ n ≤ 30 ∧ n ≠ own := by
  rw [reactionNotifyOf]
  split_ifs <;> simp <;> omega

namespace InstallRequest

variable {r : InstallRequest} {own n : Nat} {c : Fin 8}

/-- Each of the four fields that names something has a meaning, and the others are in range (R99). -/
theorem reaction_isSome_iff_fields :
    (r.reaction own n c).isSome = true ↔
      ((reactionSourceOf r.source).isSome = true ∧ (reactionInputOf r.input).isSome = true ∧
        (reactionGateOf r.gateInput r.gateLevel).isSome = true ∧ (reactionNotifyOf own r.notify).isSome = true) ∧
      paramValid r.action r.param = true ∧ repeatValid r.repetition = true ∧ r.delay ≤ horizon := by
  rw [InstallRequest.reaction]
  cases reactionSourceOf r.source
  case none => simp
  cases reactionInputOf r.input
  case none => simp
  cases reactionGateOf r.gateInput r.gateLevel
  case none => simp
  cases reactionNotifyOf own r.notify
  case none => simp
  simp [Option.isSome_ite, and_assoc]

/-- The ranges of R99's fifth check. -/
theorem reaction_isSome_iff :
    (r.reaction own n c).isSome = true ↔
      paramValid r.action r.param = true ∧ repeatValid r.repetition = true ∧ r.delay ≤ 50000000 ∧
        (r.source = 255 ∨ 1 ≤ r.source ∧ r.source ≤ 30) ∧ (r.input = 255 ∨ r.input ≤ 3) ∧
        (r.gateInput = 255 ∨ r.gateInput ≤ 3 ∧ r.gateLevel ≤ 1) ∧ (r.notify = 0 ∨ r.notify ≤ 30 ∧ r.notify ≠ own) := by
  rw [reaction_isSome_iff_fields, reactionSourceOf_isSome_iff, reactionInputOf_isSome_iff, reactionGateOf_isSome_iff,
    reactionNotifyOf_isSome_iff, and_comm, and_assoc, and_assoc]
  rfl

/-- An installed reaction is its sender's and has matched no mark (R100). -/
theorem reaction_fresh {v : Reaction} (h : r.reaction own n c = some v) :
    v.installer = n ∧ v.hits = 0 ∧ v.lastOutcome = .none := by
  unfold InstallRequest.reaction at h
  split at h
  · split at h <;> cases h
    exact ⟨rfl, rfl, rfl⟩
  · cases h

end InstallRequest

/-! ### The slots (R97, R98) -/

section

variable (s : State) (i : Fin 24)

theorem State.tagElsewhere_iff (tag : Word16) :
    s.tagElsewhere i tag = true ↔ ∃ j : Fin 24, j ≠ i ∧ ∃ x, s.slots[j] = some x ∧ x.tag = tag := by
  simp [State.tagElsewhere, Option.any_eq_true]

theorem State.tagElsewhere_eq_false_iff (tag : Word16) :
    s.tagElsewhere i tag = false ↔ ∀ j : Fin 24, j ≠ i → ∀ x, s.slots[j] = some x → x.tag ≠ tag := by
  rw [← Bool.not_eq_true, State.tagElsewhere_iff]
  push Not
  rfl

/-- The occupancy loses what the slot held and gains what is written into it. -/
theorem State.occupiedSlots_setSlot (v : Option Reaction) :
    (s.setSlot i v).occupiedSlots =
      (s.occupiedSlots - if s.slots[i].isSome then 1 else 0) + if v.isSome then 1 else 0 := by
  simp only [State.occupiedSlots, State.setSlot_slots, Vector.countP_toList]
  exact Vector.countP_set i.isLt

variable {s i}

theorem State.occupiedSlots_pos {r : Reaction} (h : s.slots[i] = some r) : 0 < s.occupiedSlots := by
  rw [State.occupiedSlots, List.countP_pos_iff]
  exact ⟨some r, Vector.mem_toList_iff.mpr (h ▸ Vector.getElem_mem i.isLt), rfl⟩

/-- An installed reaction adds one to the occupancy where its slot was empty (R168). -/
theorem State.occupiedSlots_install (r : Reaction) :
    (s.setSlot i (some r)).occupiedSlots = s.occupiedSlots + if s.slots[i] = none then 1 else 0 := by
  rw [State.occupiedSlots_setSlot]
  cases h : s.slots[i] with
  | none => rfl
  | some x => exact Nat.sub_add_cancel (State.occupiedSlots_pos h)

/-- With its slot emptied, a reaction's tag is free for any slot (R98, R101). -/
theorem State.TagLaw.tag_freed (h : s.TagLaw) {r : Reaction} (hr : s.slots[i] = some r) (j : Fin 24) :
    (s.setSlot i none).tagElsewhere j r.tag = false := by
  rw [State.tagElsewhere_eq_false_iff]
  intro k _ x hx
  rw [State.setSlot_slots, getElem_set_fin] at hx
  split at hx <;> rename_i hik
  · cases hx
  · exact h k i (Ne.symm hik) x hx r hr

end

/-! ### REACT INSTALL (R99, R100) -/

section

variable {s : State} {f : Frame} {q : InstallRequest} {n : Nat} {i : Fin 24} {c : Fin 8}

theorem State.install_of_badSlot (h : 24 ≤ q.slot) : s.install n q = (s, .badParam) := dif_neg (Nat.not_lt.mpr h)

theorem State.install_of_channelRefused {code : ResultCode} (hi : q.slot = i.val)
    (h : s.checkChannel q.channel q.action = .error code) : s.install n q = (s, code) := by
  rw [State.install, dif_pos (hi ▸ i.isLt), h]

theorem State.install_of_badField (hi : q.slot = i.val) (h : s.checkChannel q.channel q.action = .ok c)
    (hr : q.reaction s.settings.station n c = none) : s.install n q = (s, .badParam) := by
  rw [State.install, dif_pos (hi ▸ i.isLt), h]
  dsimp only
  rw [hr]

/-- The checks on the slot, the channel and the fields passed, the one on the tag is left (R99). -/
theorem State.install_of_inRange {r : Reaction} (hi : q.slot = i.val) (h : s.checkChannel q.channel q.action = .ok c)
    (hr : q.reaction s.settings.station n c = some r) :
    s.install n q =
      if s.tagElsewhere i q.tag then (s, .tagInUse)
      else (s.setSlot i (some r), if s.slots[i] = none then .ok else .replaced) := by
  have hlt : q.slot < 24 := hi ▸ i.isLt
  obtain rfl : (⟨q.slot, hlt⟩ : Fin 24) = i := Fin.ext hi
  rw [State.install, dif_pos hlt, h]
  dsimp only
  rw [hr]
  cases s.slots[q.slot] <;> rfl

/-- A payload read as an INSTALL's has its operation code (R168). -/
theorem parseInstall_op {p : List Byte} (h : parseInstall p = some q) : natAt p 0 = 0 := by
  unfold parseInstall at h
  split at h
  · dsimp only at h
    split at h
    · rename_i hp
      exact hp.1
    · cases h
  · cases h

/-- An INSTALL taken is answered with the occupancy it leaves (R161, R168). -/
theorem State.Takes.reactInstall_eq {t : State} {code : ResultCode} (ht : s.Takes .react f)
    (hw : f.wellFormed .react = true) (hp : parseInstall f.payload = some q)
    (he : (s.receive f).install f.sender q = (t, code)) :
    exec (.reactInstall f) s = .next (State.conclude .react f code (BitVec.ofNat 16 t.occupiedSlots) t) := by
  have formed : (Instr.reactInstall f).wellFormed = true := by simp [Instr.wellFormed, hw, parseInstall_op hp]
  have body : installBody f (s.receive f) = (t, code, BitVec.ofNat 16 t.occupiedSlots) := by
    rw [installBody, hp]
    dsimp only
    rw [he]
  exact whenFormed_of_wellFormed formed (ht.command_eq body)

end

/-- Settles O37: each check of R99 by what it tests, and the slot written where all have passed. -/
theorem installWritesSlot : Obligations.InstallWritesSlot := by
  rintro s f q refuse hw ht hp rfl
  have answered : ∀ {t code}, (s.receive f).install f.sender q = (t, code) →
      exec (.reactInstall f) s = .next (State.conclude .react f code (BitVec.ofNat 16 t.occupiedSlots) t) :=
    ht.reactInstall_eq hw hp
  refine ⟨fun h24 => answered (State.install_of_badSlot h24), fun i hi => ⟨fun h8 => ?_, fun c hc => ?_⟩⟩
  · exact answered (State.install_of_channelRefused hi (dif_neg (Nat.not_lt.mpr h8)))
  have checks : (s.receive f).checkChannel q.channel q.action =
      if s.isPairOdd c then .error .paired
      else if actionValid s.settings.channels[c].mode q.action then .ok c
      else .error .badAction := by
    rw [hc, State.checkChannel_of_lt]
    rfl
  refine ⟨fun hodd => ?_, fun hodd => ⟨fun hact => ?_, fun hact => ?_⟩⟩
  · exact answered (State.install_of_channelRefused hi (checks.trans (if_pos hodd)))
  · refine answered (State.install_of_channelRefused hi (checks.trans ?_))
    rw [hodd, hact]
    rfl
  have passed : (s.receive f).checkChannel q.channel q.action = .ok c := by
    rw [checks, hodd, hact]
    rfl
  refine ⟨fun hr => answered (State.install_of_badField hi passed hr), InstallRequest.reaction_isSome_iff, fun r hr => ?_⟩
  obtain ⟨hinstaller, hhits, hlast⟩ := InstallRequest.reaction_fresh hr
  have inRange := State.install_of_inRange (s := s.receive f) hi passed hr
  refine ⟨hinstaller, hhits, hlast, InstallRequest.reaction_tag hr, fun held => ?_, fun free => ?_⟩
  · exact answered (inRange.trans (if_pos ((State.tagElsewhere_iff (s.receive f) i q.tag).mpr held)))
  · have unheld := (State.tagElsewhere_eq_false_iff (s.receive f) i q.tag).mpr free
    rw [answered (inRange.trans (if_neg (Bool.eq_false_iff.mp unheld))), State.occupiedSlots_install]
    rfl

/-! ### REACT REMOVE (R101) -/

section

variable {s : State} {f : Frame} {i : Fin 24}

theorem State.removeReaction_of_badSlot {n : Nat} (h : 24 ≤ n) : s.removeReaction n = (s, .badParam) :=
  dif_neg (Nat.not_lt.mpr h)

theorem State.removeReaction_of_empty (h : s.slots[i] = none) : s.removeReaction i.val = (s, .notFound) := by
  rw [State.removeReaction, dif_pos i.isLt]
  exact if_neg (by simp [h])

theorem State.removeReaction_of_occupied {r : Reaction} (h : s.slots[i] = some r) :
    s.removeReaction i.val = (s.setSlot i none, .ok) := by
  rw [State.removeReaction, dif_pos i.isLt]
  exact if_pos (by simp [h])

/-- A REMOVE taken is answered with the occupancy it leaves (R101, R161). -/
theorem State.Takes.reactRemove_eq {t : State} {code : ResultCode} {b : Byte} (ht : s.Takes .react f)
    (hw : f.wellFormed .react = true) (hp : f.payload = [1, b])
    (he : (s.receive f).removeReaction b.toNat = (t, code)) :
    exec (.reactRemove f) s = .next (State.conclude .react f code (BitVec.ofNat 16 t.occupiedSlots) t) := by
  have formed : (Instr.reactRemove f).wellFormed = true := by simp [Instr.wellFormed, hw, hp, natAt, byteAt]
  have parse : parseRemove f.payload = some b.toNat := by simp [parseRemove, hp, natAt, byteAt]
  have body : removeBody f (s.receive f) = (t, code, BitVec.ofNat 16 t.occupiedSlots) := by
    rw [removeBody, parse]
    dsimp only
    rw [he]
  exact whenFormed_of_wellFormed formed (ht.command_eq body)

end

/-- Settles O38: the three kinds of slot that a REMOVE can name, and the tag that the emptied one held. -/
theorem removeEmptiesSlot : Obligations.RemoveEmptiesSlot := by
  intro s f hw ht
  refine ⟨fun b hb hp => ht.reactRemove_eq hw hp (State.removeReaction_of_badSlot hb), fun i hp => ?_⟩
  have number : (BitVec.ofNat 8 i.val).toNat = i.val := Nat.mod_eq_of_lt (by omega)
  have answered : ∀ {t code}, (s.receive f).removeReaction i.val = (t, code) →
      exec (.reactRemove f) s = .next (State.conclude .react f code (BitVec.ofNat 16 t.occupiedSlots) t) :=
    fun he => ht.reactRemove_eq hw hp (number.symm ▸ he)
  refine ⟨fun hempty => answered (State.removeReaction_of_empty hempty), fun r hr => ⟨?_, fun j law => law.tag_freed hr j⟩⟩
  have one_less : ((s.receive f).setSlot i none).occupiedSlots = s.occupiedSlots - 1 := by
    rw [State.occupiedSlots_setSlot, show (s.receive f).slots[i] = some r from hr]
    rfl
  rw [answered (State.removeReaction_of_occupied hr), one_less]
  rfl

end Sys2Proof.Machine
end

section
/-! The peer table and the roster at a settle point, in any order of the six acts (R119, R120, R123, R186). -/

namespace Sys2Proof.Machine

/-! ### The entry into ACTIVE at a settle point (R186, R187) -/

/-- What a settle point appends to the roster: the station itself, where it counts the listen time full. -/
def State.joins (s : State) : List Nat :=
  if s.station = .listening ∧ s.settings.listenTime ≤ s.listenCount + 1 then [s.settings.station] else []

/-- The listen count leaves the peer table, and brings a station that joins to its roster's end (R186, R187). -/
theorem State.countListen_peers (s : State) :
    s.countListen.peers = s.peers ∧ s.countListen.settings = s.settings ∧
      s.countListen.roster = if s.joins = [] then s.roster else moveToEnd s.settings.station s.roster := by
  unfold State.joins
  by_cases hs : s.station = .listening
  · by_cases hl : s.settings.listenTime ≤ s.listenCount + 1
    · obtain ⟨_, _, _, _, e⟩ := State.activate_touches { s with listenCount := s.listenCount + 1 }
      have joined : s.countListen = State.activate { s with listenCount := s.listenCount + 1 } := by
        rw [State.countListen, if_pos hs]
        exact if_pos hl
      rw [joined, e]
      simp [hs, hl]
    · simp [State.countListen, hs, hl]
  · simp [State.countListen, hs]

/-- A move to the end appends a station that is not yet present (R121). -/
theorem moveToEnd_of_notMem {station : Nat} {roster : List Nat} (h : station ∉ roster) :
    moveToEnd station roster = roster ++ [station] := by
  rw [moveToEnd, List.filter_eq_self.mpr fun n hn => by simpa using ne_of_mem_of_not_mem hn h]

/-! ### The acts and the peer table -/

/-- Every act but the roster controller's and the listen count leaves the peer table, the roster and what decides
whether the station joins it. -/
theorem settleAct_members (news : SettleNews) {a : SettleAct} (h1 : a ≠ .agePeers) (h2 : a ≠ .listenCount) (u : State) :
    (u.settleAct news a).KeepsPeers u ∧ (u.settleAct news a).settings = u.settings ∧
      (u.settleAct news a).station = u.station ∧ (u.settleAct news a).listenCount = u.listenCount := by
  cases a with
  | agePeers => exact absurd rfl h1
  | listenCount => exact absurd rfl h2
  | stampDuty =>
    obtain ⟨_, _, _, e⟩ := u.stampDuty_touches
    rw [State.settleAct, e]
    exact ⟨⟨rfl, rfl⟩, rfl, rfl, rfl⟩
  | hold =>
    unfold State.settleAct
    dsimp only
    split <;> exact ⟨⟨rfl, rfl⟩, rfl, rfl, rfl⟩
  | generators =>
    obtain ⟨_, _, e⟩ := u.stepGenerators_touches news.change
    rw [State.settleAct, e]
    exact ⟨⟨rfl, rfl⟩, rfl, rfl, rfl⟩
  | schedule =>
    obtain ⟨_, _, _, _, _, e⟩ := u.stepSchedule_touches news.change
    rw [State.settleAct, e]
    exact ⟨⟨rfl, rfl⟩, rfl, rfl, rfl⟩

/-- A state part of the way through the acts of a settle point that found the station in `s`: whether the roster
controller has aged its entries, and whether station control has counted. -/
structure State.PartSettled (s : State) (aged counted : Bool) (u : State) : Prop where
  settings : u.settings = s.settings
  peers : u.peers = if aged then s.agePeers.peers else s.peers
  roster : u.roster = (if aged then s.agePeers.roster else s.roster) ++ if counted then s.joins else []
  uncounted : counted = false → u.station = s.station ∧ u.listenCount = s.listenCount

namespace State.PartSettled

variable {s u : State} {aged counted : Bool}

/-- No peer has the station's own number, so that its entry into the roster outlives the silent peers (R115). -/
theorem agePeers (h : s.PartSettled false counted u) (law : s.RosterLaw) : s.PartSettled true counted u.agePeers := by
  obtain ⟨-, peer, -⟩ := law
  have silent : u.fallsSilent = s.fallsSilent := by
    funext p
    rw [State.fallsSilent, h.settings]
    rfl
  have peers : u.peers = s.peers := h.peers
  refine ⟨h.settings, ?_, ?_, h.uncounted⟩
  · simp [State.agePeers, peers, silent]
  · have own_stays : ∀ n ∈ s.joins, (!s.peers.any fun p => p.station == n && s.fallsSilent p) = true := fun n hn => by
      obtain rfl : n = s.settings.station := by
        unfold State.joins at hn
        split at hn
        · exact List.mem_singleton.mp hn
        · exact absurd hn List.not_mem_nil
      simpa using fun p hp e => absurd e (peer p hp).2.2.1
    have stay : ∀ c : Bool, (if c then s.joins else []).filter
        (fun n => !s.peers.any fun p => p.station == n && s.fallsSilent p) = if c then s.joins else [] := fun c => by
      cases c
      · rfl
      · exact List.filter_eq_self.mpr own_stays
    simp only [State.agePeers, peers, silent, h.roster, List.filter_append, stay]
    rfl

/-- A station that is LISTENING is no member of its roster, so that it is appended (R121, R187). -/
theorem countListen (h : s.PartSettled aged false u) (law : s.RosterLaw) : s.PartSettled aged true u.countListen := by
  obtain ⟨-, peer, -, member, -⟩ := law
  obtain ⟨hs, hc⟩ := h.uncounted rfl
  obtain ⟨ep, eg, er⟩ := u.countListen_peers
  have same : u.joins = s.joins := by simp only [State.joins, hs, hc, h.settings]
  refine ⟨eg.trans h.settings, ep.trans h.peers, er.trans ?_, nofun⟩
  rw [same, h.settings, h.roster]
  by_cases hj : s.station = .listening ∧ s.settings.listenTime ≤ s.listenCount + 1
  · have absent : s.settings.station ∉ s.roster := fun hm => by
      obtain hm | ⟨-, ha⟩ := member _ hm
      · obtain ⟨p, hp, e⟩ := List.mem_map.mp hm
        exact (peer p hp).2.2.1 e
      · exact absurd (hj.1.symm.trans ha) (by decide)
    have absent' : s.settings.station ∉ if aged then s.agePeers.roster else s.roster := by
      cases aged
      · exact absent
      · exact fun hm => absent (List.mem_of_mem_filter hm)
    have joins : s.joins = [s.settings.station] := if_pos hj
    simp [joins, moveToEnd_of_notMem absent']
  · have stays : s.joins = [] := if_neg hj
    simp [stays]

/-- One act more, which has not been taken yet. -/
theorem settleAct (h : s.PartSettled aged counted u) (law : s.RosterLaw) (news : SettleNews) {a : SettleAct}
    (ha : aged = true → a ≠ .agePeers) (hc : counted = true → a ≠ .listenCount) :
    s.PartSettled (aged || decide (.agePeers = a)) (counted || decide (.listenCount = a)) (u.settleAct news a) := by
  by_cases h1 : a = .agePeers
  · subst h1
    obtain rfl : aged = false := by simpa using ha
    simpa [State.settleAct] using h.agePeers law
  · by_cases h2 : a = .listenCount
    · subst h2
      obtain rfl : counted = false := by simpa using hc
      simpa [State.settleAct] using h.countListen law
    · obtain ⟨⟨ep, er⟩, eg, es, ec⟩ := settleAct_members news h1 h2 u
      have kept : s.PartSettled aged counted (u.settleAct news a) :=
        ⟨eg.trans h.settings, ep.symm.trans h.peers, er.symm.trans h.roster, fun hc => by
          rw [es, ec]
          exact h.uncounted hc⟩
      simpa [Ne.symm h1, Ne.symm h2] using kept

/-- Acts one after another, each of them once. -/
theorem foldl_settleAct (law : s.RosterLaw) (news : SettleNews) {l : List SettleAct} (hl : l.Nodup)
    (h : s.PartSettled aged counted u) (ha : aged = true → .agePeers ∉ l) (hc : counted = true → .listenCount ∉ l) :
    s.PartSettled (aged || decide (.agePeers ∈ l)) (counted || decide (.listenCount ∈ l))
      (l.foldl (fun t a => t.settleAct news a) u) := by
  induction l generalizing u aged counted with
  | nil => simpa using h
  | cons a rest ih =>
    obtain ⟨hn, hr⟩ := List.nodup_cons.mp hl
    have one := h.settleAct law news (a := a) (fun e h' => ha e (by simp [h'])) (fun e h' => hc e (by simp [h']))
    have notAfter : ∀ {b : Bool} {x : SettleAct}, (b = true → x ∉ a :: rest) → (b || decide (x = a)) = true → x ∉ rest := by
      intro b x hb h'
      obtain h' | h' := Bool.or_eq_true_iff.mp h'
      · exact fun hm => hb h' (List.mem_cons_of_mem _ hm)
      · exact of_decide_eq_true h' ▸ hn
    have all := ih hr one (notAfter ha) (notAfter hc)
    rw [List.foldl_cons]
    simpa [Bool.or_assoc] using all

end State.PartSettled

/-- Settles O41, by the acts that touch the peer table and the roster, each taken once. -/
theorem settlePointAgesPeers : Obligations.SettlePointAgesPeers := by
  intro order s t hx he law
  have hw : SettleAct.isOrder order = true := (whenFormed_eq_next.mp hx).1
  have perm := perm_of_isOrder hw
  have taken : ∀ a : SettleAct, a ∈ order := fun a => perm.subset (by cases a <;> decide)
  have start : s.PartSettled false false s.settleUnit := ⟨rfl, rfl, (List.append_nil _).symm, fun _ => ⟨rfl, rfl⟩⟩
  have settled := start.foldl_settleAct law s.settleNews (perm.nodup_iff.mp (by decide)) nofun nofun
  simp only [taken, decide_true, Bool.or_true] at settled
  have limit : (fun p : Peer => !s.fallsSilent p) = fun p => decide (p.silence + 1 < s.settings.silenceLimit) :=
    funext fun p => by rw [State.fallsSilent, ← decide_not, decide_eq_decide, Nat.not_le]
  rw [exec_settlePoint hx he]
  exact ⟨settled.peers.trans (by rw [← limit]; rfl), settled.roster⟩

end Sys2Proof.Machine
end

section
/-! The end of a stretch and the deferral it begins (R125, R132 to R138), and the clean end of an own frame (R144). -/

namespace Sys2Proof.Machine

/-! ### The deferral target (R125, R138) -/

/-- Every member of a lawful roster is a station number (R115). -/
theorem State.RosterLaw.station_number {s : State} (law : s.RosterLaw) (hl : s.settings.Legal) {n : Nat}
    (hn : n ∈ s.roster) : 1 ≤ n ∧ n ≤ 30 := by
  obtain ⟨-, peer, -, member, -⟩ := law
  obtain hm | ⟨rfl, -⟩ := member n hn
  · obtain ⟨p, hp, rfl⟩ := List.mem_map.mp hm
    obtain ⟨h1, h30, -⟩ := peer p hp
    exact ⟨h1, h30⟩
  · exact hl.1

/-- The members ahead of the station are of the 30 station numbers, each once, and not its own (R125). -/
theorem State.RosterLaw.rank_le {s : State} (law : s.RosterLaw) (hl : s.settings.Legal) : s.rank ≤ 29 := by
  have ahead : (s.roster.takeWhile (· != s.settings.station)).Sublist s.roster := List.takeWhile_sublist _
  have not_own : s.settings.station ∉ s.roster.takeWhile (· != s.settings.station) := fun h => by
    simpa using List.mem_takeWhile_imp h
  have once : (s.settings.station :: s.roster.takeWhile (· != s.settings.station)).Nodup :=
    List.nodup_cons.mpr ⟨not_own, law.2.2.1.sublist ahead⟩
  have numbers : s.settings.station :: s.roster.takeWhile (· != s.settings.station) ⊆ List.range' 1 30 := fun n hn => by
    have : 1 ≤ n ∧ n ≤ 30 := by
      obtain rfl | hn := List.mem_cons.mp hn
      · exact hl.1
      · exact law.station_number hl (ahead.subset hn)
    simp only [List.mem_range'_1]
    omega
  have := (once.subperm numbers).length_le
  simp only [List.length_cons, List.length_range'] at this
  rw [State.rank]
  omega

/-- The base gap, a rank of at most 29 and a backoff of at most 7 (R138, R143). -/
theorem State.deferralTarget_bounds {s : State} (law : s.RosterLaw) (hl : s.settings.Legal) :
    3 ≤ s.deferralTarget ∧ s.deferralTarget ≤ 39 := by
  have rank := law.rank_le hl
  have backoff := (s.line.backoff.getD 0).isLt
  rw [State.deferralTarget]
  omega

/-! ### The end of a stretch (R133, R134, R136) -/

/-- A stretch being received ends as it is judged (R133). -/
theorem exec_lineGoesQuiet_of_received {s : State} {cells : List Bool} {more first : Bool}
    (hb : s.line.condition = .busy) (hp : s.line.passedOver = false) :
    exec (.lineGoesQuiet cells more first) s = s.endStretch cells more first := by
  rw [exec, execLineGoesQuiet, if_neg (by simp [hb]), if_neg (by simp [hp])]

/-- Settles O43, by the cases of a stretch's end and the row a clean frame is handed on by. -/
theorem lineGoesQuietJudges : Obligations.LineGoesQuietJudges := by
  intro s cells more first hb
  refine ⟨fun t => rfl, fun t law hl n hn => ?_, fun hp => ?_, fun hp => ?_⟩
  · by_cases ha : t.station = .active
    · obtain rfl : t.deferralTarget = n := by simpa [State.beginQuiet, ha] using hn
      exact State.deferralTarget_bounds law (hl (by simp [ha]))
    · simp [State.beginQuiet, ha] at hn
  · rw [exec, execLineGoesQuiet, if_neg (by simp [hb]), if_pos hp]
    rfl
  · rw [exec_lineGoesQuiet_of_received hb hp]
    refine ⟨fun n hn => ?_, fun kind f t hj ht => ?_⟩
    · rw [State.endStretch]
      obtain ⟨hj, rfl⟩ | ⟨hj, rfl⟩ | ⟨hj, rfl⟩ := hn <;> rw [hj] <;> rfl
    · have formed := (judge_clean hj).2.2.2
      subst ht
      rw [State.endStretch, hj]
      refine ⟨fun hf => ?_, fun hf => ?_⟩
      · obtain ⟨u, hu⟩ := State.deliver_next
          { s with counters := { s.counters with cleanFrames := bump s.counters.cleanFrames } } formed
        refine ⟨u, (State.deliver_eq_exec_rowOf ..).symm.trans hu, (if_pos hf).trans ?_⟩
        rw [State.count, hu]
        rfl
      · obtain ⟨u, hu⟩ := State.deliver_next
          (State.beginQuiet { s with counters := { s.counters with cleanFrames := bump s.counters.cleanFrames } }) formed
        exact ⟨u, (State.deliver_eq_exec_rowOf ..).symm.trans hu, (if_neg (by simp [hf])).trans hu⟩

/-! ### The clean end of an own frame (R123, R144, R153, R156) -/

/-- The one frame of the queue that is on the line (R152). -/
theorem State.frameOnLine_eq {s : State} {a b : List TxFrame} {f : TxFrame} (hq : s.queue = a ++ f :: b)
    (hf : f.onLine = true) (hab : ∀ g ∈ a ++ b, g.onLine = false) : s.frameOnLine = some f := by
  have before : a.find? (·.onLine) = none :=
    List.find?_eq_none.mpr fun g hg => by simp [hab g (List.mem_append_left b hg)]
  rw [State.frameOnLine, hq, List.find?_append, before, List.find?_cons_of_pos hf]
  rfl

/-- Settles O46: the frame on the line and any STAMP leave the queue, and the restart reply lets its restart take
effect. -/
theorem cleanEndFinishesFrame : Obligations.CleanEndFinishesFrame := by
  intro s u a b f hc hq hf hab hstamp hend hu
  have online := State.frameOnLine_eq hq hf hab
  have ends : s.ownFrameEnds = true := by
    have stamped : s.line.stamped.isSome = true := Option.isSome_iff_ne_none.mpr hstamp
    simp [State.ownFrameEnds, hc, stamped, online, hend]
  have left : s.queue.filter (fun g => !g.onLine && g.kind != .stamp) = (a ++ b).filter (·.kind != .stamp) := by
    have others : ∀ l ⊆ a ++ b, l.filter (fun g => !g.onLine && g.kind != .stamp) = l.filter (·.kind != .stamp) :=
      fun l hl => List.filter_congr fun g hg => by simp [hab g (hl hg)]
    rw [hq, List.filter_append, List.filter_cons_of_neg (by simp [hf]), others a (List.subset_append_left a b),
      others b (List.subset_append_right a b), List.filter_append]
  have finished : s.finishFrame = u := by
    rw [hu, State.finishFrame, left]
    rfl
  rw [exec, execOwnFrameCleanEnd, if_pos ends, online, finished]
  rfl

end Sys2Proof.Machine
end

section
/-! SUPPORT. A step that a duplicate overtakes: as long as every frame it makes arrives before the queue is emptied, the
step goes as it would in an open queue (R158). -/

namespace Sys2Proof.Machine

/-! ### A queue told when it is emptied -/

/-- The state, its queue told to stand emptied from the arrival of age `n` on (R158). -/
def State.shutAt (n : Nat) (s : State) : State := { s with queueShutFrom := some n }

@[simp] theorem State.shutAt_station (n : Nat) (s : State) : (s.shutAt n).station = s.station := rfl
@[simp] theorem State.shutAt_queue (n : Nat) (s : State) : (s.shutAt n).queue = s.queue := rfl

/-- Between steps no emptying is under way, and the note of one is taken away at the step's end. -/
theorem State.reopen_shutAt {s : State} (n : Nat) (h : s.queueShutFrom = none) :
    ({ s.shutAt n with queueShutFrom := none } : State) = s := by rw [← h]; rfl

theorem State.arrivesLate_shutAt (n : Nat) (s : State) : (s.shutAt n).arrivesLate = decide (n ≤ s.nextAge) := rfl

/-- A frame that arrives after the emptying is lost (R158). -/
theorem State.arrive_of_late {s : State} (h : s.arrivesLate = true) (kind : TxKind) (d : Nat) (q : BitVec 4)
    (p : List Byte) (r : Bool) : s.arrive kind d q p r = s.loseFrame kind := if_pos (.inr h)

/-- What an operation does to a queue that is emptied only after its last frame has arrived: what it does to an
open one. No arrival takes back a number given. -/
structure ArrivesBefore (F : State → State) : Prop where
  ages (s : State) : s.nextAge ≤ (F s).nextAge
  note (s : State) : (F s).queueShutFrom = s.queueShutFrom
  same (s : State) (n : Nat) : s.queueShutFrom = none → (F s).nextAge ≤ n → F (s.shutAt n) = (F s).shutAt n

/-- The same of an operation that answers. -/
structure AnswersBefore {α : Type} (body : State → State × α) : Prop where
  ages (s : State) : s.nextAge ≤ (body s).1.nextAge
  note (s : State) : (body s).1.queueShutFrom = s.queueShutFrom
  same (s : State) (n : Nat) : s.queueShutFrom = none → (body s).1.nextAge ≤ n →
    body (s.shutAt n) = ((body s).1.shutAt n, (body s).2)

namespace ArrivesBefore

variable {F G : State → State}

/-- No frame arrives, and the note is not read. -/
theorem of_silent
    (h : ∀ s n, F (s.shutAt n) = (F s).shutAt n ∧ (F s).nextAge = s.nextAge ∧ (F s).queueShutFrom = s.queueShutFrom) :
    ArrivesBefore F :=
  ⟨fun s => (h s 0).2.1.ge, fun s => (h s 0).2.2, fun s n _ _ => (h s n).1⟩

theorem comp (hG : ArrivesBefore G) (hF : ArrivesBefore F) : ArrivesBefore fun s => G (F s) where
  ages s := (hF.ages s).trans (hG.ages _)
  note s := (hG.note _).trans (hF.note s)
  same s n h hn := by
    have first := hF.same s n h ((hG.ages _).trans hn)
    exact (congrArg G first).trans (hG.same (F s) n ((hF.note s).trans h) hn)

theorem foldl {α : Type} {F : α → State → State} (h : ∀ a, ArrivesBefore (F a)) (l : List α) :
    ArrivesBefore fun s => l.foldl (fun t a => F a t) s := by
  induction l with
  | nil => exact of_silent fun _ _ => ⟨rfl, rfl, rfl⟩
  | cons a rest ih => exact ih.comp (h a)

/-- What an operation reads of the state besides the note of the emptying. -/
theorem reading {α : Type} {F : α → State → State} (read : State → α) (hr : ∀ s n, read (s.shutAt n) = read s)
    (h : ∀ a, ArrivesBefore (F a)) : ArrivesBefore fun s => F (read s) s where
  ages s := (h _).ages s
  note s := (h _).note s
  same s n hs hn := by
    rw [hr]
    exact (h _).same s n hs hn

theorem ite {c : State → Prop} [DecidablePred c] (hc : ∀ s n, c (s.shutAt n) ↔ c s) (hF : ArrivesBefore F)
    (hG : ArrivesBefore G) : ArrivesBefore fun s => if c s then F s else G s := by
  refine ⟨fun s => ?_, fun s => ?_, fun s n hs hn => ?_⟩ <;> by_cases h : c s
  · simpa only [h, if_true] using hF.ages s
  · simpa only [h, if_false] using hG.ages s
  · simpa only [h, if_true] using hF.note s
  · simpa only [h, if_false] using hG.note s
  · simp only [h, hc, if_true] at hn ⊢
    exact hF.same s n hs hn
  · simp only [h, hc, if_false] at hn ⊢
    exact hG.same s n hs hn

end ArrivesBefore

namespace AnswersBefore

variable {α : Type} {A B : State → State × α}

theorem of_op {F : State → State} (h : ArrivesBefore F) (a : α) : AnswersBefore fun s => (F s, a) :=
  ⟨h.ages, h.note, fun s n hs hn => by dsimp only; rw [h.same s n hs hn]⟩

/-- No frame arrives, and the note is not read. -/
theorem of_silent
    (h : ∀ s n, A (s.shutAt n) = ((A s).1.shutAt n, (A s).2) ∧ (A s).1.nextAge = s.nextAge ∧
      (A s).1.queueShutFrom = s.queueShutFrom) : AnswersBefore A :=
  ⟨fun s => (h s 0).2.1.ge, fun s => (h s 0).2.2, fun s n _ _ => (h s n).1⟩

/-- Nothing but an answer. -/
theorem pure (a : α) : AnswersBefore fun s => (s, a) :=
  of_silent fun _ _ => ⟨rfl, rfl, rfl⟩

theorem bind {β : Type} {g : α → State → State × β} (hg : ∀ a, AnswersBefore (g a)) (hA : AnswersBefore A) :
    AnswersBefore fun s => g (A s).2 (A s).1 where
  ages s := (hA.ages s).trans ((hg _).ages _)
  note s := ((hg _).note _).trans (hA.note s)
  same s n h hn := by
    rw [hA.same s n h (((hg _).ages _).trans hn)]
    exact (hg _).same _ n ((hA.note s).trans h) hn

theorem reading {β : Type} {A : β → State → State × α} (read : State → β) (hr : ∀ s n, read (s.shutAt n) = read s)
    (h : ∀ b, AnswersBefore (A b)) : AnswersBefore fun s => A (read s) s where
  ages s := (h _).ages s
  note s := (h _).note s
  same s n hs hn := by
    rw [hr]
    exact (h _).same s n hs hn

theorem ite {c : State → Prop} [DecidablePred c] (hc : ∀ s n, c (s.shutAt n) ↔ c s) (hA : AnswersBefore A)
    (hB : AnswersBefore B) : AnswersBefore fun s => if c s then A s else B s := by
  refine ⟨fun s => ?_, fun s => ?_, fun s n hs hn => ?_⟩ <;> by_cases h : c s
  · simpa only [h, if_true] using hA.ages s
  · simpa only [h, if_false] using hB.ages s
  · simpa only [h, if_true] using hA.note s
  · simpa only [h, if_false] using hB.note s
  · simp only [h, hc, if_true] at hn ⊢
    exact hA.same s n hs hn
  · simp only [h, hc, if_false] at hn ⊢
    exact hB.same s n hs hn

end AnswersBefore

/-! ### The operations of the schedule -/

/-- What becomes of an entry that has fired: it is held at its next due, or it leaves (R41, R42). -/
def State.holdOrSpend (e : Entry) (next : Option Entry) (s : State) : State :=
  match next with
  | some next => s.insert next
  | none => s.spent e

namespace ArrivesBefore

/-- A frame that would be late finds, in an open queue, no place either, or its number shows. -/
theorem arrive (kind : TxKind) (d : Nat) (q : BitVec 4) (p : List Byte) (r : Bool) :
    ArrivesBefore fun s => s.arrive kind d q p r := by
  refine ⟨fun s => ?_, fun s => ?_, fun s n hs hn => ?_⟩
  · obtain ⟨-, -, -, e⟩ | ⟨-, -, -, v, -, e⟩ | ⟨-, e⟩ := State.arrive_cases kind d q p r s <;> simp only [e]
    exacts [Nat.le_succ _, Nat.le_succ _, le_rfl]
  · obtain ⟨_, _, _, e⟩ := s.arrive_touches kind d q p r
    simp only [e]
  · by_cases late : n ≤ s.nextAge
    · have lost : s.arrive kind d q p r = s.loseFrame kind := by
        obtain ⟨-, -, -, e⟩ | ⟨-, -, -, v, -, e⟩ | ⟨-, e⟩ := State.arrive_cases kind d q p r s
        · simp only [e, State.placeFrame_nextAge] at hn
          omega
        · simp only [e, State.placeFrame_nextAge] at hn
          omega
        · exact e
      rw [lost]
      exact State.arrive_of_late (by simpa [State.arrivesLate_shutAt] using late) kind d q p r
    · have early : (s.shutAt n).arrivesLate = false := by simpa [State.arrivesLate_shutAt] using late
      have unshut : s.arrivesLate = false := by simp [State.arrivesLate, hs]
      cases hv : victim kind.cls s.queue with
      | none =>
        simp only [State.arrive, early, unshut, State.shutAt_station, State.shutAt_queue, hv, apply_ite (State.shutAt n)]
        rfl
      | some v =>
        simp only [State.arrive, early, unshut, State.shutAt_station, State.shutAt_queue, hv, apply_ite (State.shutAt n)]
        rfl

theorem notice (e : Entry) (o : NoticeOutcome) : ArrivesBefore (State.notice e o) := by
  cases hn : e.notify with
  | none =>
    rw [show State.notice e o = fun s => s from funext fun s => by rw [State.notice, hn]]
    exact of_silent fun _ _ => ⟨rfl, rfl, rfl⟩
  | some station =>
    rw [show State.notice e o = fun s => s.arrive .notice station 0 (noticePayload e o s.lineTime) false from
      funext fun s => by rw [State.notice, hn]]
    exact reading State.lineTime (fun _ _ => rfl)
      (F := fun now s => s.arrive .notice station 0 (noticePayload e o now) false) fun _ => arrive ..

theorem drop (e : Entry) : ArrivesBefore (State.drop e) :=
  (notice e .dropped).comp (F := fun s => { s with counters := { s.counters with dropped := bump s.counters.dropped } })
    (of_silent fun _ _ => ⟨rfl, rfl, rfl⟩)

theorem takeAction (c : Fin 8) (a : Action) (p : Word16) : ArrivesBefore (State.takeAction c a p) := by
  cases a
  case pulse | burst =>
    exact ite (c := fun s => s.isHeld c = true) (fun _ _ => Iff.rfl) (of_silent fun _ _ => ⟨rfl, rfl, rfl⟩)
      (of_silent fun _ _ => ⟨rfl, rfl, rfl⟩)
  all_goals exact of_silent fun _ _ => ⟨rfl, rfl, rfl⟩

theorem holdOrSpend (e : Entry) (next : Option Entry) : ArrivesBefore (State.holdOrSpend e next) := by
  cases next with
  | some next => exact of_silent fun _ _ => ⟨rfl, rfl, rfl⟩
  | none => exact notice ..

theorem afterFiring (e : Entry) : ArrivesBefore (State.afterFiring e) :=
  (reading (fun s => (e.afterFiring s.lineTime).1) (fun _ _ => rfl) (F := State.holdOrSpend e) (holdOrSpend e)).comp
    (F := fun s => s.count fun k =>
      { k with repeatsSkipped := bumpBy (e.afterFiring s.lineTime).2 k.repeatsSkipped })
    (of_silent fun _ _ => ⟨rfl, rfl, rfl⟩)

theorem fire (e : Entry) : ArrivesBefore (State.fire e) := by
  have acts : ArrivesBefore fun s : State =>
      State.takeAction e.channel e.action e.param (s.count fun k => { k with fired := bump k.fired }) :=
    (takeAction ..).comp (F := State.count fun k => { k with fired := bump k.fired }) (of_silent fun _ _ => ⟨rfl, rfl, rfl⟩)
  refine ite (c := fun s => (e.lockRequired && !s.inLock) = true) (fun _ _ => Iff.rfl) (drop e) ?_
  exact reading (State.firingHeld e.channel e.action) (fun _ _ => by cases e.action <;> rfl)
    (F := fun held s => State.afterFiring { e with heldAtLast := held }
      (State.takeAction e.channel e.action e.param (s.count fun k => { k with fired := bump k.fired })))
    fun held => (afterFiring _).comp acts

/-- The entries that leave the schedule are told before anything is done to them. -/
theorem takeOut {F : Entry → State → State} (h : ∀ e, ArrivesBefore (F e)) (out kept : State → List Entry)
    (ho : ∀ s n, out (s.shutAt n) = out s) (hk : ∀ s n, kept (s.shutAt n) = kept s) :
    ArrivesBefore fun s => (out s).foldl (fun t e => F e t) { s with schedule := kept s } :=
  reading out ho (F := fun l s => l.foldl (fun t e => F e t) { s with schedule := kept s }) fun l =>
    (foldl h l).comp (F := fun s => { s with schedule := kept s })
      (of_silent fun s n => by rw [hk]; exact ⟨rfl, rfl, rfl⟩)

theorem fireReached : ArrivesBefore State.fireReached := takeOut fire
    (fun s => s.schedule.filter fun e => s.lineReached e.due) (fun s => s.schedule.filter fun e => !s.lineReached e.due)
    (fun _ _ => rfl) fun _ _ => rfl

theorem removeEntries (gone : Entry → Bool) (o : NoticeOutcome) : ArrivesBefore (State.removeEntries gone o) :=
  takeOut (F := fun e => State.notice e o) (fun e => notice e o) (fun s => s.schedule.filter gone)
    (fun s => s.schedule.filter fun e => !gone e) (fun _ _ => rfl) fun _ _ => rfl

theorem armEntry (e : Entry) : ArrivesBefore (State.armEntry e) := by
  have inserted : ArrivesBefore (State.insert e) := of_silent fun _ _ => ⟨rfl, rfl, rfl⟩
  exact ite (c := fun s => s.lineReached e.due = true) (fun _ _ => Iff.rfl) (fireReached.comp inserted) inserted

end ArrivesBefore

/-! ### The commands (R161 to R175) -/

/-- An ARM that is neither OK nor REPLACED is counted (R50). -/
def State.countRefusal (code : ResultCode) (s : State) : State :=
  if code = .ok ∨ code = .replaced then s
  else { s with counters := { s.counters with armsRefused := bump s.counters.armsRefused } }

theorem armBody_of_parse {f : Frame} {r : ArmRequest} (hp : parseArm f.payload = some r) :
    armBody f = fun s =>
      ((s.arm f.sender r).1.countRefusal (s.arm f.sender r).2, (s.arm f.sender r).2,
        BitVec.ofNat 16 (s.arm f.sender r).1.schedule.length) := funext fun s => by
  rw [armBody, hp]
  rfl

namespace AnswersBefore

theorem armChecked (e : Entry) : AnswersBefore (State.armChecked e) :=
  ite (c := fun s => s.holdsEntry e.origin e.tag = true) (fun _ _ => Iff.rfl)
    (of_op ((ArrivesBefore.armEntry e).comp (ArrivesBefore.removeEntries ..)) _)
    (ite (c := fun s => scheduleLimit ≤ s.schedule.length) (fun _ _ => Iff.rfl) (pure _)
      (of_op (ArrivesBefore.armEntry e) _))

/-- The checks of R29 read nothing of the queue. -/
theorem arm (origin : Nat) (r : ArmRequest) : AnswersBefore (State.arm origin r) := by
  by_cases h8 : r.channel < 8
  · rw [show State.arm origin r = _ from funext fun s => State.arm_eq (s := s) (c := ⟨r.channel, h8⟩) rfl]
    refine ite (fun _ _ => Iff.rfl) (pure _) (ite (fun _ _ => Iff.rfl) (pure _) (ite (fun _ _ => Iff.rfl) (pure _)
      (ite (fun _ _ => Iff.rfl) (pure _) (ite (fun _ _ => Iff.rfl) (pure _) (ite (fun _ _ => Iff.rfl) (pure _) ?_)))))
    exact reading (State.armDue r.due) (fun _ _ => rfl)
      (A := fun due => State.armChecked (r.entry origin ⟨r.channel, h8⟩ due)) fun _ => armChecked _
  · rw [show State.arm origin r = fun s => (s, .badChannel) from
      funext fun s => State.arm_of_badChannel (Nat.not_lt.mp h8)]
    exact pure _

theorem refusePayload : AnswersBefore State.refusePayload := of_silent fun _ _ => ⟨rfl, rfl, rfl⟩

/-- A command whose payload is refused, or is read and handed on. -/
theorem of_parse {β : Type} (parsed : Option β) {body : State → State × ResultCode × Word16}
    {read : β → State → State × ResultCode × Word16} (hn : parsed = none → body = State.refusePayload)
    (hs : ∀ x, parsed = some x → body = read x) (h : ∀ x, AnswersBefore (read x)) : AnswersBefore body := by
  cases hp : parsed with
  | none => exact hn hp ▸ refusePayload
  | some x => exact hs x hp ▸ h x

theorem armBody (f : Frame) : AnswersBefore (Machine.armBody f) := by
  cases hp : parseArm f.payload with
  | none =>
    rw [show Machine.armBody f = _ from funext fun s => by rw [Machine.armBody, hp]]
    exact of_silent fun _ _ => ⟨rfl, rfl, rfl⟩
  | some r =>
    rw [armBody_of_parse hp]
    refine bind (g := fun code s => (s.countRefusal code, code, BitVec.ofNat 16 s.schedule.length)) (fun code => ?_)
      (arm f.sender r)
    unfold State.countRefusal
    by_cases hc : code = .ok ∨ code = .replaced
    · simp only [hc, if_true]
      exact of_silent fun _ _ => ⟨rfl, rfl, rfl⟩
    · simp only [hc, if_false]
      exact of_silent fun _ _ => ⟨rfl, rfl, rfl⟩

/-- A removal answers with the number removed (R44 to R46). -/
theorem removal (gone : Entry → Bool) (code : Nat → ResultCode) :
    AnswersBefore fun s =>
      (s.removeEntries gone .cancelled, code (s.removedCount gone), BitVec.ofNat 16 (s.removedCount gone)) :=
  reading (State.removedCount gone) (fun _ _ => rfl)
    (A := fun k s => (s.removeEntries gone .cancelled, code k, BitVec.ofNat 16 k)) fun _ =>
      of_op (ArrivesBefore.removeEntries ..) _

theorem cancelWhere (gone : Entry → Bool) : AnswersBefore (Machine.cancelWhere gone) :=
  removal gone fun k => if k = 0 then .notFound else .ok

theorem cancelByTagBody (f : Frame) : AnswersBefore (Machine.cancelByTagBody f) :=
  of_parse (parseCancelByTag f.payload) (read := fun x => Machine.cancelWhere (·.named x.1 x.2))
    (fun hp => funext fun s => by rw [Machine.cancelByTagBody, hp])
    (fun x hp => funext fun s => by rw [Machine.cancelByTagBody, hp]) fun _ => cancelWhere _

theorem cancelByChannelBody (f : Frame) : AnswersBefore (Machine.cancelByChannelBody f) :=
  of_parse (parseCancelByChannel f.payload)
    (read := fun k s => if k < 8 then Machine.cancelWhere (fun e => e.channel.val == k) s else (s, .badChannel, 0))
    (fun hp => funext fun s => by rw [Machine.cancelByChannelBody, hp])
    (fun x hp => funext fun s => by rw [Machine.cancelByChannelBody, hp])
    fun k => ite (c := fun _ => k < 8) (fun _ _ => Iff.rfl) (cancelWhere _) (pure _)

theorem flushBody (f : Frame) : AnswersBefore (Machine.flushBody f) :=
  of_parse (parseFlush f.payload)
    (read := fun all s => (s.removeEntries (fun e => all || e.origin == f.sender) .cancelled, .ok,
      BitVec.ofNat 16 (s.removedCount fun e => all || e.origin == f.sender)))
    (fun hp => funext fun s => by rw [Machine.flushBody, hp])
    (fun x hp => funext fun s => by rw [Machine.flushBody, hp])
    fun all => removal _ fun _ => .ok

theorem setgenBody (f : Frame) : AnswersBefore (Machine.setgenBody f) := by
  by_cases h8 : (parseSetgen f.payload).channel < 8
  · rw [show Machine.setgenBody f = _ from
      funext fun s => State.setgen_eq (s := s) (c := ⟨(parseSetgen f.payload).channel, h8⟩) rfl]
    exact ite (fun _ _ => Iff.rfl) (pure _) (ite (fun _ _ => Iff.rfl) (pure _) (ite (fun _ _ => Iff.rfl) (pure _)
      (of_silent fun _ _ => ⟨rfl, rfl, rfl⟩)))
  · rw [show Machine.setgenBody f = fun s => (s, .badChannel, 0) from funext fun s => dif_neg h8]
    exact pure _

theorem install (m : Nat) (q : InstallRequest) : AnswersBefore (State.install m q) := by
  refine of_silent fun s n => ⟨?_, ?_⟩
  · by_cases h24 : q.slot < 24
    · have slot : q.slot = (⟨q.slot, h24⟩ : Fin 24).val := rfl
      cases hc : s.checkChannel q.channel q.action with
      | error code =>
        rw [State.install_of_channelRefused slot hc, State.install_of_channelRefused (s := s.shutAt n) slot hc]
      | ok c =>
        cases hr : q.reaction s.settings.station m c with
        | none => rw [State.install_of_badField slot hc hr, State.install_of_badField (s := s.shutAt n) slot hc hr]
        | some r =>
          rw [State.install_of_inRange slot hc hr, State.install_of_inRange (s := s.shutAt n) slot hc hr]
          change (if s.tagElsewhere ⟨q.slot, h24⟩ q.tag = true then _ else _) = _
          split <;> rfl
    · have bad := Nat.not_lt.mp h24
      rw [State.install_of_badSlot bad, State.install_of_badSlot bad]
  · obtain ⟨_, e⟩ := s.install_touches m q
    rw [e]
    exact ⟨rfl, rfl⟩

theorem removeReaction (k : Nat) : AnswersBefore (State.removeReaction k) := by
  by_cases h24 : k < 24
  · rw [show State.removeReaction k = _ from funext fun s => dif_pos h24]
    exact ite (fun _ _ => Iff.rfl) (of_silent fun _ _ => ⟨rfl, rfl, rfl⟩) (pure _)
  · rw [show State.removeReaction k = fun s => (s, .badParam) from funext fun s => dif_neg h24]
    exact pure _

/-- The reaction table's answer goes out with its occupancy (R168). -/
theorem withOccupancy {table : State → State × ResultCode} (h : AnswersBefore table) :
    AnswersBefore fun s => ((table s).1, (table s).2, BitVec.ofNat 16 (table s).1.occupiedSlots) :=
  h.bind (g := fun code s => (s, code, BitVec.ofNat 16 s.occupiedSlots)) fun _ => of_silent fun _ _ => ⟨rfl, rfl, rfl⟩

theorem installBody (f : Frame) : AnswersBefore (Machine.installBody f) :=
  of_parse (parseInstall f.payload) (fun hp => funext fun s => by rw [Machine.installBody, hp])
    (fun q hp => funext fun s => by rw [Machine.installBody, hp]) fun q => withOccupancy (install f.sender q)

theorem removeBody (f : Frame) : AnswersBefore (Machine.removeBody f) :=
  of_parse (parseRemove f.payload) (fun hp => funext fun s => by rw [Machine.removeBody, hp])
    (fun k hp => funext fun s => by rw [Machine.removeBody, hp]) fun k => withOccupancy (removeReaction k)

theorem releaseHoldBody (f : Frame) : AnswersBefore (Machine.releaseHoldBody f) :=
  of_parse (parseReleaseHold f.payload) (read := State.release)
    (fun hp => funext fun s => by rw [Machine.releaseHoldBody, hp])
    (fun mask hp => funext fun s => by rw [Machine.releaseHoldBody, hp])
    fun _ => of_silent fun _ _ => ⟨rfl, rfl, rfl⟩

theorem clearCountersBody (f : Frame) : AnswersBefore (Machine.clearCountersBody f) :=
  ite (c := fun _ => clearCountersFits f.payload = true) (fun _ _ => Iff.rfl) (of_silent fun _ _ => ⟨rfl, rfl, rfl⟩)
    refusePayload

theorem restartBody (f : Frame) : AnswersBefore (Machine.restartBody f) :=
  ite (c := fun _ => restartFits f.payload = true) (fun _ _ => Iff.rfl) (of_silent fun _ _ => ⟨rfl, rfl, rfl⟩)
    refusePayload

end AnswersBefore

end Sys2Proof.Machine
end

section
/-! A clean frame that bears the station's own number: the entry into SILENCED, and the step that it overtakes (R126, R158,
R176, R188). -/

namespace Sys2Proof.Machine

/-! ### The entry into SILENCED (R126, R188) -/

/-- In LISTENING and ACTIVE a duplicate silences the station, its latched time spent (R5, R126). -/
theorem State.duplicateFound_eq_silence {s : State} (h : s.station = .listening ∨ s.station = .active) :
    s.duplicateFound = State.silence { s with line := { s.line with latched := none } } := by
  obtain h | h := h <;> rw [State.duplicateFound, h]

/-- A frame lost before the entry into SILENCED stays counted. -/
theorem State.duplicateFound_loseFrame {s : State} (h : s.station = .listening ∨ s.station = .active) (k : TxKind) :
    (s.loseFrame k).duplicateFound = s.duplicateFound.loseFrame k := by
  rw [State.duplicateFound_eq_silence (s := s.loseFrame k) h, State.duplicateFound_eq_silence h]
  cases k <;> rfl

/-- What a held pair keeps is its D (R74). -/
theorem Pair.cancel_congr {p q : Pair} (h : p.drive.d = q.drive.d) : p.cancel = q.cancel := by
  simp only [Pair.cancel, h]

/-- Pairs that follow their D come into the hold as they would after following it once more (R71, R74). -/
theorem State.silence_followPairs {s : State} (law : s.FollowLaw) : s.followPairs.silence = s.silence := by
  have pairs : (s.followPairs.holdAll .fault).pairs = (s.holdAll .fault).pairs := by
    refine Vector.ext fun k hk => ?_
    have cancelled : ∀ u : State, (u.holdAll .fault).pairs[k] = u.pairs[k].cancel := fun u =>
      (State.enterHold_pair u .fault (fun _ => true) ⟨k, hk⟩).trans (if_pos rfl)
    rw [cancelled, cancelled]
    refine Pair.cancel_congr ?_
    have followed := State.followPairs_pair s ⟨k, hk⟩
    change s.followPairs.pairs[k] = _ at followed
    rw [followed]
    split <;> rename_i hf
    · rw [Bool.and_eq_true, Bool.not_eq_true'] at hf
      exact (Pair.follow_d ..).trans (law ⟨k, hk⟩ hf.1 hf.2).symm
    · rfl
  have held : s.followPairs.holdAll .fault = s.holdAll .fault := by
    rw [show s.followPairs.holdAll .fault = { s.holdAll .fault with pairs := (s.followPairs.holdAll .fault).pairs } from rfl,
      pairs]
  rw [State.silence, held]
  rfl

theorem State.duplicateFound_followPairs {s : State} (h : s.station = .listening ∨ s.station = .active)
    (law : s.FollowLaw) : s.followPairs.duplicateFound = s.duplicateFound := by
  rw [State.duplicateFound_eq_silence (s := s.followPairs) h, State.duplicateFound_eq_silence h]
  exact State.silence_followPairs (s := { s with line := { s.line with latched := none } }) law

/-! ### The row, and the step it overtakes (R126, R158) -/

section

variable {kind : FrameKind} {f : Frame} {s u : State}

theorem exec_duplicate (hw : f.wellFormed kind = true) (hf : f.sender = s.settings.station) :
    exec (.duplicateNumberFrame kind f none) s = .next s.duplicateFound := by
  simp [exec, execDuplicateNumberFrame, Instr.wellFormed, hw, hf]

/-- An overtaken step has the meaning of its row. -/
theorem State.takeOvertaken_eq_exec {o : OvertakenStep} (h : o.wellFormed = true) (s : State) :
    s.takeOvertaken o = exec (overtakenRow s.settings.station o) s := by
  cases o with
  | entryDue | settlePoint | captureEdge => rfl
  | delivered k g =>
    rw [overtakenRow, ← State.deliver_eq_exec_rowOf, State.takeOvertaken, State.deliver]
    split <;> rename_i hg
    · exact (exec_duplicate h hg).symm
    · rfl

/-- The step overtaken is taken, and then the duplicate is found. -/
theorem exec_duplicate_overtaking {o : Overtaken} (hw : f.wellFormed kind = true) (hf : f.sender = s.settings.station)
    (ho : o.step.wellFormed = true)
    (hu : exec (overtakenRow s.settings.station o.step)
      { s with queueShutFrom := if s.station = .active then some (s.nextAge + o.placed) else none } = .next u) :
    exec (.duplicateNumberFrame kind f (some o)) s = .next (State.duplicateFound { u with queueShutFrom := none }) := by
  have formed : (Instr.duplicateNumberFrame kind f (some o)).wellFormed = true := by simp [Instr.wellFormed, hw, ho]
  obtain ⟨hn, -⟩ | ⟨-, hn, -⟩ | ⟨-, o', u', ho', hu', e⟩ := execDuplicateNumberFrame_cases s formed
  · exact absurd hf hn
  · cases hn
  · cases ho'
    cases (State.takeOvertaken_eq_exec ho _).symm.trans hu' |>.symm.trans hu
    exact e

end

end Sys2Proof.Machine
end

section
/-! A command whose answer arrives after the emptying of the queue, the NOTICE of a CANCEL that does so, and what the entry
into SILENCED leaves (R158, R176, R188). -/

namespace Sys2Proof.Machine

/-! ### The rows of the commands (R136) -/

theorem Drives.refl (s : State) (steady : Bool) : Drives s steady s := by
  cases steady
  exacts [Drives.start.stir, .start]

/-- How a command's row ends: an ordinary REPLY, or a RESTART's conclusion (R160, R174). -/
def Concludes (ck : CommandKind) (g : Frame) (conclude : ResultCode → Word16 → State → State) : Prop :=
  conclude = State.answer ck g ∨ ∃ was, conclude = restartConclude was g

section

variable {k : FrameKind} {g : Frame} {own : Nat} {s u : State}

/-- The row leads to `u` through the decoder. Where it can move a drive, which an ARM alone can, the pairs follow. -/
def Decodes (ck : CommandKind) (g : Frame) (body : State → State × ResultCode × Word16) (s u : State) : Prop :=
  ∃ conclude steady, Concludes ck g conclude ∧ (∀ s₀, Drives.Body s₀ steady body) ∧
    u = if steady then s.command ck g body conclude else (s.command ck g body conclude).followPairs

/-- The row of an addressed command that is no QUERY. -/
theorem exec_rowOf_command {ck : CommandKind} {body : State → State × ResultCode × Word16}
    (hb : commandBody k g = some (ck, body)) (hf : g.sender ≠ own) (hd : g.destination = own)
    (hx : exec (rowOf own k g) s = .next u) : AnswersBefore body ∧ Decodes ck g body s u := by
  have toUs : (g.destination == own || g.destination == 31) = true := by simp [hd]
  have answered : ∀ {i ck body}, AnswersBefore body → (∀ s₀, Drives.Body s₀ true body) →
      exec i s = whenFormed i (s.command ck g body (State.answer ck g)) → exec i s = .next u →
      AnswersBefore body ∧ Decodes ck g body s u :=
    fun h hm hi hx => ⟨h, _, true, .inl rfl, hm, (whenFormed_eq_next.mp (hi.symm.trans hx)).2.symm⟩
  unfold rowOf at hx
  cases k <;> simp only [commandBody, Option.some.injEq, Prod.mk.injEq, reduceCtorEq] at hb <;> obtain ⟨rfl, rfl⟩ := hb
    <;> simp only [if_neg hf, toUs, if_true, Bool.not_true, Bool.false_eq_true, if_false] at hx
  case arm =>
    exact ⟨.armBody g, _, false, .inl rfl, fun _ => Drives.armBody g, (whenFormed_eq_next.mp hx).2.symm⟩
  case cancel =>
    split at hx <;> rename_i hc
    · rw [if_pos hc]
      exact answered (.cancelByChannelBody g) (fun _ => Drives.cancelByChannelBody g) rfl hx
    · rw [if_neg hc]
      exact answered (.cancelByTagBody g) (fun _ => Drives.cancelByTagBody g) rfl hx
  case setgen => exact answered (.setgenBody g) (fun _ => Drives.setgenBody g) rfl hx
  case react =>
    split at hx <;> rename_i hc
    · rw [if_pos hc]
      exact answered (.removeBody g) (fun _ => Drives.removeBody g) rfl hx
    · rw [if_neg hc]
      exact answered (.installBody g) (fun _ => Drives.installBody g) rfl hx
  case control =>
    generalize natAt g.payload 0 = code at hx
    match code with
    | 1 => exact answered (.clearCountersBody g) (fun _ => Drives.clearCountersBody g) rfl hx
    | 2 => exact answered (.flushBody g) (fun _ => Drives.flushBody g) rfl hx
    | 3 =>
      exact ⟨.restartBody g, _, true, .inr ⟨_, rfl⟩, fun _ => Drives.restartBody g, (whenFormed_eq_next.mp hx).2.symm⟩
    | 0 | n + 4 => exact answered (.releaseHoldBody g) (fun _ => Drives.releaseHoldBody g) rfl hx

/-- The row of an addressed QUERY of a topic that there is (R169). -/
theorem exec_rowOf_query (hf : g.sender ≠ own) (hd : g.destination = own) (h6 : natAt g.payload 0 ≤ 6)
    (hx : exec (rowOf own .query g) s = .next u) : ∃ topic per build, u = s.query topic per build g := by
  unfold rowOf at hx
  simp only [if_neg hf, hd, beq_self_eq_true, Bool.true_or, Bool.not_true, Bool.false_eq_true, if_false] at hx
  generalize natAt g.payload 0 = code at hx h6
  interval_cases code <;> exact ⟨_, _, _, (whenFormed_eq_next.mp hx).2.symm⟩

/-- The row of an addressed QUERY of an undefined topic (R169). -/
theorem exec_rowOf_unknownTopic (hf : g.sender ≠ own) (hd : g.destination = own) (h6 : 6 < natAt g.payload 0)
    (hx : exec (rowOf own .query g) s = .next u) : u = s.handOver g (State.refuseTopic g) := by
  unfold rowOf at hx
  simp only [if_neg hf, hd, beq_self_eq_true, Bool.true_or, Bool.not_true, Bool.false_eq_true, if_false] at hx
  generalize natAt g.payload 0 = code at hx h6
  match code, h6 with
  | n + 7, _ => exact (whenFormed_eq_next.mp hx).2.symm

end

/-! ### An answer that is lost (R158, R176) -/

section

variable {s w : State} {k : FrameKind} {ck : CommandKind} {g : Frame}

/-- A REPLY to one station that arrives after the emptying is lost. -/
theorem State.reply_of_late (h : s.arrivesLate = true) (h31 : g.destination ≠ 31) (c : ResultCode) (dup : Bool)
    (d : Word16) (r : Bool) : s.reply k g c dup d r = s.loseFrame .reply := by
  rw [State.reply, if_neg h31, State.arrive_of_late h]

/-- A command addressed to this station loses its answer, and a RESTART with it its effect (R158, R176). -/
theorem Concludes.of_late {conclude : ResultCode → Word16 → State → State} (hc : Concludes ck g conclude)
    (h : s.arrivesLate = true) (h31 : g.destination ≠ 31) (code : ResultCode) (detail : Word16) :
    conclude code detail s = s.loseFrame .reply := by
  obtain rfl | ⟨was, rfl⟩ := hc
  · exact State.reply_of_late h h31 ..
  · obtain e | ⟨-, hd, -⟩ | ⟨-, -, -, e⟩ := restartConclude_cases was g code detail s
    · exact e.trans (State.reply_of_late h h31 ..)
    · exact absurd hd h31
    · rw [e, h, Bool.or_true, if_pos rfl, State.reply_of_late h h31]

/-- A repeat is answered from the record (R162). -/
theorem State.command_of_repeat {body : State → State × ResultCode × Word16}
    {conclude : ResultCode → Word16 → State → State} {r : CommandRecord} (ha : s.station = .active)
    (hf : g.sender ≠ s.settings.station) (hd : s.addressed g = true) (hr : s.repeatOf ck g = some r) :
    s.command ck g body conclude = (s.receive g).answerRepeat ck g r := by
  rw [State.command, State.handOver, if_neg (by simp [ha]), if_neg hf, State.decode, if_neg (by simpa using hd),
    if_neg (by simpa using ha), State.repeatOf_receive, hr]

/-- The row of a command leaves `w` before its answer arrives, and with the queue emptied from that arrival on it leaves
the same but for the answer, which is lost. Where the row does not end with the pairs' following, they follow D. -/
structure State.LosesAnswer (s : State) (i : Instr) (w : State) : Prop where
  ages : s.nextAge ≤ w.nextAge
  note : w.queueShutFrom = none
  station : w.station = .active
  settings : w.settings = s.settings
  row : ∃ u, exec i (s.shutAt w.nextAge) = .next u ∧
    (u = ((w.loseFrame .reply).shutAt w.nextAge).followPairs ∨
      u = (w.loseFrame .reply).shutAt w.nextAge ∧ w.FollowLaw)

/-- An addressed command in ACTIVE from another station, at a queue that is not being emptied. -/
structure State.Hears (s : State) (g : Frame) : Prop where
  active : s.station = .active
  sender : g.sender ≠ s.settings.station
  own : g.destination = s.settings.station
  single : g.destination ≠ 31
  note : s.queueShutFrom = none

theorem State.Hears.addressed (h : s.Hears g) : s.addressed g = true := by simp [State.addressed, h.own]

/-- What the queue is told, its row answers in any case. -/
theorem State.exec_rowOf_next (n : Nat) (s : State) (hg : g.wellFormed k = true) :
    ∃ u, exec (rowOf s.settings.station k g) (s.shutAt n) = .next u := by
  obtain ⟨u, hu⟩ := State.deliver_next (s.shutAt n) hg
  exact ⟨u, (State.deliver_eq_exec_rowOf ..).symm.trans hu⟩

/-- The frame that arrives from the emptying on is late. -/
theorem State.arrivesLate_shutAt_self (s : State) : (s.shutAt s.nextAge).arrivesLate = true := decide_eq_true le_rfl

/-- A row through the decoder ends as it should if its command does. -/
theorem losesAnswer_row {v x y u : State} {steady : Bool} (hu : u = if steady then x else x.followPairs) (hxy : x = y)
    (law : steady = true → v.FollowLaw) : u = y.followPairs ∨ u = y ∧ v.FollowLaw := by
  subst hxy
  cases steady
  · exact .inl hu
  · exact .inr ⟨hu, law rfl⟩

/-- A command carried out (R161). -/
theorem State.Hears.losesAnswer_command {body : State → State × ResultCode × Word16} (h : s.Hears g)
    (law : s.FollowLaw) (hg : g.wellFormed k = true) (hb : commandBody k g = some (ck, body))
    (hr : s.repeatOf ck g = none)
    (hw : w = (body (s.receive g)).1.writeRecord g.sender
      ⟨ck, g.sequence, (body (s.receive g)).2.1, (body (s.receive g)).2.2⟩) :
    s.LosesAnswer (rowOf s.settings.station k g) w := by
  obtain ⟨u, hx⟩ := s.exec_rowOf_next w.nextAge hg
  obtain ⟨before, conclude, steady, hc, drives, hu⟩ := exec_rowOf_command hb h.sender h.own hx
  obtain ⟨moved, active⟩ := drives (s.receive g) (Drives.refl _ steady) h.active
  have taken : (s.shutAt w.nextAge).Takes ck g := ⟨h.active, h.sender, h.addressed, hr⟩
  have meaning : (s.shutAt w.nextAge).command ck g body conclude = (w.loseFrame .reply).shutAt w.nextAge := by
    have same := before.same (s.receive g) w.nextAge h.note (hw ▸ le_rfl)
    have recorded : State.writeRecord g.sender ⟨ck, g.sequence, (body (s.receive g)).2.1, (body (s.receive g)).2.2⟩
        ((body (s.receive g)).1.shutAt w.nextAge) = w.shutAt w.nextAge := by
      rw [hw]
      rfl
    refine (taken.command_eq same).trans ?_
    rw [recorded]
    exact hc.of_late w.arrivesLate_shutAt_self h.single _ _
  have follows : steady = true → w.FollowLaw := fun hs => hw ▸ moved.keeps_following hs law
  refine ⟨?_, ?_, ?_, ?_, u, hx, losesAnswer_row hu meaning follows⟩ <;> rw [hw]
  exacts [before.ages (s.receive g), (before.note (s.receive g)).trans h.note, active, moved.settings_eq]

/-- A repeat (R162). -/
theorem State.Hears.losesAnswer_repeat {body : State → State × ResultCode × Word16} (h : s.Hears g)
    (law : s.FollowLaw) (hg : g.wellFormed k = true) (hb : commandBody k g = some (ck, body))
    (hr : (s.repeatOf ck g).isSome = true) (hw : w = (s.receive g).countRepeat) :
    s.LosesAnswer (rowOf s.settings.station k g) w := by
  obtain ⟨u, hx⟩ := s.exec_rowOf_next w.nextAge hg
  obtain ⟨-, conclude, steady, -, -, hu⟩ := exec_rowOf_command hb h.sender h.own hx
  obtain ⟨r, hr⟩ := Option.isSome_iff_exists.mp hr
  have meaning : (s.shutAt w.nextAge).command ck g body conclude = (w.loseFrame .reply).shutAt w.nextAge := by
    refine (State.command_of_repeat (s := s.shutAt w.nextAge) h.active h.sender h.addressed hr).trans ?_
    subst hw
    exact State.reply_of_late (State.arrivesLate_shutAt_self (s.receive g).countRepeat) h.single _ _ _ _
  subst hw
  exact ⟨le_rfl, h.note, h.active, rfl, u, hx, losesAnswer_row hu meaning fun _ => law⟩

/-- What is handed on in ACTIVE from another station is taken. -/
theorem State.Hears.handOver_shutAt (h : s.Hears g) (n : Nat) (next : State → State) :
    (s.shutAt n).handOver g next = next ((s.receive g).shutAt n) :=
  (if_neg (by simp [h.active])).trans (if_neg h.sender)

/-- A QUERY of a topic that there is: its REPORT is lost, and counted as a lost reply (R157, R169). -/
theorem State.Hears.losesAnswer_query (h : s.Hears g) (law : s.FollowLaw) (hg : g.wellFormed .query = true)
    (h6 : natAt g.payload 0 ≤ 6) : s.LosesAnswer (rowOf s.settings.station .query g) (s.receive g) := by
  obtain ⟨u, hx⟩ := s.exec_rowOf_next (s.receive g).nextAge hg
  obtain ⟨topic, per, build, hu⟩ := exec_rowOf_query h.sender h.own h6 hx
  refine ⟨le_rfl, h.note, h.active, rfl, u, hx, .inr ⟨?_, law⟩⟩
  have addressed : ((s.receive g).shutAt (s.receive g).nextAge).addressed g = true := h.addressed
  have active : ((s.receive g).shutAt (s.receive g).nextAge).station = .active := h.active
  rw [hu, State.query, h.handOver_shutAt, if_neg (by simp [addressed]), if_neg (not_not.mpr active), if_neg h.single]
  exact State.arrive_of_late (State.arrivesLate_shutAt_self _) ..

/-- A QUERY of an undefined topic: the REPLY that refuses it is lost (R163, R169). -/
theorem State.Hears.losesAnswer_unknownTopic (h : s.Hears g) (law : s.FollowLaw) (hg : g.wellFormed .query = true)
    (h6 : 6 < natAt g.payload 0) :
    s.LosesAnswer (rowOf s.settings.station .query g) (s.receive g).refusePayload.1 := by
  obtain ⟨u, hx⟩ := s.exec_rowOf_next (s.receive g).nextAge hg
  refine ⟨le_rfl, h.note, h.active, rfl, u, hx, .inr ⟨?_, law⟩⟩
  have addressed : ((s.receive g).shutAt (s.receive g).nextAge).addressed g = true := h.addressed
  have active : ((s.receive g).shutAt (s.receive g).nextAge).station = .active := h.active
  rw [exec_rowOf_unknownTopic h.sender h.own h6 hx, h.handOver_shutAt, State.refuseTopic, if_neg (by simp [addressed]),
    if_neg (not_not.mpr active)]
  exact State.reply_of_late (State.arrivesLate_shutAt_self (s.receive g).refusePayload.1) h.single ..

end

/-! ### The duplicate after a lost frame (R158, R176) -/

section

variable {s w : State} {kind k : FrameKind} {f g : Frame}

/-- The note of an emptying is none of what the pairs follow. -/
theorem State.reopen_followPairs_shutAt (n : Nat) (h : s.queueShutFrom = none) :
    ({ (s.shutAt n).followPairs with queueShutFrom := none } : State) = s.followPairs := by rw [← h]; rfl

theorem State.followPairs_loseFrame (x : TxKind) (s : State) :
    (s.loseFrame x).followPairs = s.followPairs.loseFrame x := rfl

/-- In ACTIVE the step overtaken finds the queue told when it is emptied (log entry 31). -/
theorem exec_duplicate_shutAt {o : OvertakenStep} {n : Nat} {u : State} (hw : f.wellFormed kind = true)
    (hf : f.sender = s.settings.station) (ho : o.wellFormed = true) (ha : s.station = .active) (hn : s.nextAge ≤ n)
    (hu : exec (overtakenRow s.settings.station o) (s.shutAt n) = .next u) :
    exec (.duplicateNumberFrame kind f (some ⟨o, n - s.nextAge⟩)) s =
      .next (State.duplicateFound { u with queueShutFrom := none }) := by
  refine exec_duplicate_overtaking hw hf ho ?_
  rw [if_pos ha, Nat.add_sub_cancel' hn]
  exact hu

/-- The station is silenced as it would be after the command, and one more reply is lost. -/
theorem State.LosesAnswer.silences (h : s.LosesAnswer (rowOf s.settings.station k g) w) (hw : f.wellFormed kind = true)
    (hf : f.sender = s.settings.station) (hg : g.wellFormed k = true) (ha : s.station = .active) :
    ∃ v, exec (.duplicateNumberFrame kind f none) w.followPairs = .next v ∧ v.station = .silenced ∧ v.queue = [] ∧
      exec (.duplicateNumberFrame kind f (some ⟨.delivered k g, w.nextAge - s.nextAge⟩)) s = .next (v.loseFrame .reply) := by
  obtain ⟨u, hx, hu⟩ := h.row
  have silenced := State.duplicateFound_eq_silence (s := w.followPairs) (.inr h.station)
  have reopened := State.reopen_shutAt w.nextAge (s := w.loseFrame .reply) h.note
  refine ⟨_, exec_duplicate hw (hf.trans (congrArg Settings.station h.settings.symm)), ?_, ?_, ?_⟩
  · rw [silenced]
    rfl
  · rw [silenced]
    rfl
  · rw [exec_duplicate_shutAt (o := .delivered k g) hw hf hg ha h.ages hx]
    refine congrArg Host.Outcome.next ?_
    obtain rfl | ⟨rfl, law⟩ := hu
    · rw [State.reopen_followPairs_shutAt w.nextAge (s := w.loseFrame .reply) h.note, State.followPairs_loseFrame,
        State.duplicateFound_loseFrame (s := w.followPairs) (.inr h.station)]
    · rw [reopened, State.duplicateFound_loseFrame (.inr h.station), State.duplicateFound_followPairs (.inr h.station) law]

/-- An entry's NOTICE that arrives after the emptying is lost. -/
theorem State.notice_of_late {e : Entry} {n : Nat} (h : s.arrivesLate = true) (he : e.notify = some n)
    (o : NoticeOutcome) :
    s.notice e o = s.loseFrame .notice := by
  rw [State.notice, he]
  exact State.arrive_of_late h ..

/-- A CANCEL whose entry has a notify station, its NOTICE and its REPLY both late. -/
theorem State.conclude_cancel_late {t : State} {e : Entry} {n : Nat} (he : e.notify = some n) :
    State.conclude .cancel g .ok 1 (State.notice e .cancelled (t.shutAt t.nextAge)) =
      if g.destination = 31 then
        ((t.writeRecord g.sender ⟨.cancel, g.sequence, .ok, 1⟩).loseFrame .notice).shutAt t.nextAge
      else
        (((t.writeRecord g.sender ⟨.cancel, g.sequence, .ok, 1⟩).loseFrame .notice).loseFrame .reply).shutAt t.nextAge := by
  rw [State.notice_of_late t.arrivesLate_shutAt_self he, State.conclude, State.answer]
  by_cases h31 : g.destination = 31
  · rw [if_pos h31, State.reply, if_pos h31]
    rfl
  · rw [if_neg h31]
    exact State.reply_of_late
      ((t.writeRecord g.sender ⟨.cancel, g.sequence, .ok, 1⟩).loseFrame .notice).arrivesLate_shutAt_self h31 ..

/-- The duplicate found after a CANCEL whose NOTICE and whose REPLY, if it owes one, were lost. -/
theorem State.duplicateFound_of_lateCancel {v : State} (h : v.station = .listening ∨ v.station = .active)
    (note : v.queueShutFrom = none) (n : Nat) (broadcast : Prop) [Decidable broadcast] :
    State.duplicateFound
        { if broadcast then (v.loseFrame .notice).shutAt n else ((v.loseFrame .notice).loseFrame .reply).shutAt n with
          queueShutFrom := none } =
      { v.duplicateFound with
        counters :=
          { v.duplicateFound.counters with
            lostNotices := bump v.duplicateFound.counters.lostNotices
            lostReplies :=
              if broadcast then v.duplicateFound.counters.lostReplies
              else bump v.duplicateFound.counters.lostReplies } } := by
  by_cases hb : broadcast
  · rw [if_pos hb, if_pos hb, State.reopen_shutAt n (s := v.loseFrame .notice) note, State.duplicateFound_loseFrame h]
    rfl
  · rw [if_neg hb, if_neg hb, State.reopen_shutAt n (s := (v.loseFrame .notice).loseFrame .reply) note,
      State.duplicateFound_loseFrame (s := v.loseFrame .notice) h, State.duplicateFound_loseFrame h]
    rfl

end

/-! ### The duplicate (R126, R188) -/

/-- What the entry into SILENCED empties and clears. -/
theorem State.silence_clears (s : State) :
    s.silence.station = .silenced ∧ s.silence.faultPin = true ∧ s.silence.restartPending = false ∧
      s.silence.schedule = [] ∧ s.silence.queue = [] ∧ s.silence.finished = false ∧
      s.silence.roster = s.roster.filter (· != s.settings.station) ∧ s.silence.line = s.cutLine.line := by
  obtain ⟨_, _, _, e⟩ := s.silence_touches
  rw [e]
  exact ⟨rfl, rfl, rfl, rfl, rfl, rfl, rfl, rfl⟩

/-- The entry into SILENCED holds every channel, and counts what it cuts (R74, R188). -/
theorem State.silence_holds (s : State) :
    (∀ c : Fin 8, s.silence.channels[c] =
      { s.channels[c] with pulse := none, burst := none, gen := .stopped, hold := some .fault }) ∧
    s.silence.counters =
      { s.counters with
        pulsesCut := s.silence.counters.pulsesCut
        burstsCut := s.silence.counters.burstsCut } := by
  unfold State.silence State.emptyQueue State.cutLine
  exact ⟨fun c => (State.enterHold_channel s .fault (fun _ => true) c).trans (if_pos rfl), rfl⟩

/-- What the entry into SILENCED leaves as it was. -/
theorem State.silence_leaves (s : State) :
    s.KeepsTime s.silence ∧ s.KeepsCaptures s.silence ∧ s.silence.peers = s.peers ∧ s.silence.slots = s.slots ∧
      s.silence.settings = s.settings ∧ s.silence.listenCount = s.listenCount ∧ s.silence.resetHeld = s.resetHeld ∧
      s.silence.draws = s.draws ∧ s.silence.pending = s.pending := by
  obtain ⟨_, _, _, e⟩ := s.silence_touches
  rw [e]
  exact ⟨⟨rfl, rfl, rfl, rfl, rfl, rfl, rfl⟩, ⟨rfl, rfl, rfl, rfl⟩, rfl, rfl, rfl, rfl, rfl, rfl, rfl⟩

/-- A frame on the line is cut with a break, and any other condition stays (R145). -/
theorem State.cutLine_condition (s : State) :
    (s.line.condition = .sending → s.cutLine.line.condition = .breaking ∧
      s.cutLine.line.breakEnd = later s.localTime (2 * s.settings.gapTicks)) ∧
    (s.line.condition ≠ .sending → s.cutLine.line.condition = s.line.condition) := by
  unfold State.cutLine
  exact ⟨fun h => by simp [h], fun h => by simp [h]⟩

/-- Settles O40: the silencing itself, the step it overtakes, and in that step an answer and a NOTICE that arrive after the
emptying. -/
theorem duplicateNumberSilences : Obligations.DuplicateNumberSilences := by
  intro s kind f hw hf
  refine ⟨fun h => ?_, fun h => ?_, fun o ho => ?_, fun k g w hk hg hd hs h30 ha hq law hcase => ?_,
    fun g a b e station hg h0 ht hlen ho htag h1 h30 hsch hab hnotify hq => ?_⟩
  · have found := (exec_duplicate hw hf).trans (congrArg Host.Outcome.next (State.duplicateFound_eq_silence h))
    generalize hu : ({ s with line := { s.line with latched := none } } : State) = u at found
    obtain ⟨hstation, hfault, hrestart, hschedule, hqueue, hfinished, hroster, hline⟩ := u.silence_clears
    obtain ⟨hchannels, hcounters⟩ := u.silence_holds
    obtain ⟨htime, hcaptures, hpeers, hrest⟩ := u.silence_leaves
    obtain ⟨hcut, hstays⟩ := u.cutLine_condition
    obtain ⟨htarget, hbackoff, -⟩ := u.cutLine_line
    rw [← hline] at hcut hstays htarget hbackoff
    refine ⟨u.silence, found, hstation, hfault, hrestart, hschedule, hqueue, hfinished, ?_⟩
    subst hu
    exact ⟨hroster, hpeers, hchannels, hcut, hstays, htarget, hbackoff, hcounters, htime, hcaptures, hrest⟩
  · rw [exec_duplicate hw hf, State.duplicateFound, h]
  · obtain ⟨u, hu⟩ := State.takeOvertaken_next
      { s with queueShutFrom := if s.station = .active then some (s.nextAge + o.placed) else none } ho
    have told : Drives s true { s with queueShutFrom := if s.station = .active then some (s.nextAge + o.placed) else none } :=
      Drives.start.apart rfl .inl
    have kept : u.settings = s.settings := (told.takeOvertaken hu).settings_eq
    have row := (State.takeOvertaken_eq_exec ho _).symm.trans hu
    exact ⟨u, _, row, exec_duplicate hw (hf.trans (congrArg Settings.station kept.symm)),
      exec_duplicate_overtaking hw hf ho row⟩
  · have hears : s.Hears g := ⟨ha, hs, hd, by omega, hq.1⟩
    have loses : s.LosesAnswer (rowOf s.settings.station k g) w := by
      obtain ⟨ck, body, hb, ⟨hr, hw'⟩ | ⟨hr, hw'⟩⟩ | ⟨rfl, h6, rfl⟩ | ⟨rfl, h6, rfl⟩ := hcase
      · exact hears.losesAnswer_command law hg hb hr hw'
      · exact hears.losesAnswer_repeat law hg hb hr hw'
      · exact hears.losesAnswer_query law hg h6
      · exact hears.losesAnswer_unknownTopic law hg h6
    exact loses.silences hw hf hg ha
  · have row : rowOf s.settings.station .cancel g = .cancelByTag g := by
      obtain ⟨-, hs, hd, -⟩ := ht
      have toUs : (g.destination == s.settings.station || g.destination == 31) = true := hd
      simp [rowOf, hs, toUs, h0]
    have removed := (cancelByTagRemoves (s.shutAt s.nextAge) g _ _ hg h0 ht hlen ho htag h1 h30).1 a b e hsch rfl rfl hab
    obtain ⟨v, hv⟩ : ∃ v, State.writeRecord g.sender ⟨.cancel, g.sequence, .ok, 1⟩ { s.receive g with schedule := a ++ b } = v :=
      ⟨_, rfl⟩
    have active : v.station = .active := hv ▸ ht.1
    have own : f.sender = v.settings.station := hv ▸ hf
    have concluded := State.conclude_cancel_late (g := g) (t := { s.receive g with schedule := a ++ b }) hnotify
    rw [hv] at concluded ⊢
    have silenced := exec_duplicate_shutAt (o := .delivered .cancel g) hw hf hg ht.1 le_rfl
      ((congrArg (exec · _) row).trans (removed.trans (congrArg Host.Outcome.next concluded)))
    rw [Nat.sub_self] at silenced
    exact ⟨_, exec_duplicate hw own, silenced.trans (congrArg Host.Outcome.next
      (State.duplicateFound_of_lateCancel (.inr active) (hv ▸ hq.1) _ _))⟩

end Sys2Proof.Machine
end

section
/-! SUPPORT. Bytes, their bits and the CRC over them (R193, R195): what the reading of a stretch of cells gives back, and
why one wrong bit is always noticed. -/

namespace Sys2Proof.Machine

/-! ### Bytes and bits (R193) -/

theorem bytesBits_append (l m : List Byte) : bytesBits (l ++ m) = bytesBits l ++ bytesBits m := by
  induction l with
  | nil => rfl
  | cons b rest ih => rw [List.cons_append, bytesBits, bytesBits, ih, List.append_assoc]

theorem byteBits_byteOfBits (a b c d e f g h : Bool) :
    byteBits (byteOfBits a b c d e f g h) = [a, b, c, d, e, f, g, h] := by
  revert a b c d e f g h
  decide

/-- Bits that fill whole bytes are the bits of those bytes. -/
theorem bytesBits_bitsBytes {n : Nat} {l : List Bool} (h : l.length = 8 * n) : bytesBits (bitsBytes l) = l := by
  induction n generalizing l with
  | zero =>
    obtain rfl := List.length_eq_zero_iff.mp h
    rfl
  | succ n ih =>
    match l, h with
    | a :: b :: c :: d :: e :: f :: g :: i :: rest, h =>
      have left : rest.length = 8 * n := by simpa [Nat.mul_add] using h
      rw [bitsBytes, bytesBits, byteBits_byteOfBits, ih left]
      rfl

/-! ### The CRC (R195) -/

/-- The bit fed back is the lowest bit of the register afterwards, for the generator is odd. -/
theorem crcBit_getLsbD_zero (r : Word16) (b : Bool) : (crcBit r b).getLsbD 0 = (r.msb ^^ b) := by
  unfold crcBit
  cases r.msb ^^ b <;> simp

/-- With one bit taken, the register afterwards tells what it held before. -/
theorem crcBit_injective (b : Bool) : Function.Injective fun r => crcBit r b := by
  intro r r' h
  have fed : (r.msb ^^ b) = (r'.msb ^^ b) := by
    rw [← crcBit_getLsbD_zero, ← crcBit_getLsbD_zero]
    exact congrArg (BitVec.getLsbD · 0) h
  have top : r.msb = r'.msb := by simpa using fed
  have shifted : r <<< 1 = r' <<< 1 := by
    simp only [crcBit, fed] at h
    split at h
    · simpa using h
    · exact h
  simp only [BitVec.msb_eq_decide, decide_eq_decide] at top
  bv_omega

/-- From one register, the two bits lead to two registers. -/
theorem crcBit_ne (r : Word16) (b : Bool) : crcBit r (!b) ≠ crcBit r b := by
  intro h
  have fed : (r.msb ^^ !b) = (r.msb ^^ b) := by
    rw [← crcBit_getLsbD_zero, ← crcBit_getLsbD_zero, h]
  simp at fed

theorem foldl_crcBit_injective (l : List Bool) : Function.Injective fun r => l.foldl crcBit r := by
  induction l with
  | nil => exact fun _ _ h => h
  | cons b rest ih => exact ih.comp (crcBit_injective b)

/-- One wrong bit leads to another register, whatever follows. -/
theorem foldl_crcBit_set_ne {l : List Bool} {k : Nat} {b : Bool} (h : l[k]? = some b) (r : Word16) :
    (l.set k (!b)).foldl crcBit r ≠ l.foldl crcBit r := by
  induction l generalizing k r with
  | nil => simp at h
  | cons c rest ih =>
    cases k with
    | zero =>
      obtain rfl : c = b := by simpa using h
      exact fun e => crcBit_ne r c (foldl_crcBit_injective rest e)
    | succ k => exact ih (by simpa using h) (crcBit r c)

/-- The bits of two bytes are those of the word they hold, the most significant first. -/
theorem bytesBits_bytes16 (r : Word16) : bytesBits (bytes16 r) = (List.range 16).map fun i => r.getLsbD (15 - i) := by
  simp [bytesBits, bytes16, byteBits, List.range_succ]

/-- The register's own top bit feeds nothing back. -/
theorem crcBit_shiftLeft (r : Word16) {i : Nat} (h : i < 16) :
    crcBit (r <<< i) (r.getLsbD (15 - i)) = r <<< (i + 1) := by
  have top : (r <<< i).msb = r.getLsbD (15 - i) := by
    rw [BitVec.msb_eq_getLsbD_last, BitVec.getLsbD_shiftLeft]
    simp
    omega
  rw [crcBit, top, Bool.xor_self, if_neg Bool.false_ne_true, BitVec.shiftLeft_add]

/-- A register's own bits shift it out. -/
theorem foldl_crcBit_own_bits (r : Word16) {n : Nat} (h : n ≤ 16) :
    ((List.range n).map fun i => r.getLsbD (15 - i)).foldl crcBit r = r <<< n := by
  induction n with
  | zero => simp
  | succ n ih =>
    rw [List.range_succ, List.map_append, List.foldl_append, ih (by omega)]
    exact crcBit_shiftLeft r (by omega)

/-- Bytes followed by their CRC leave the register clear. -/
theorem crc_sealed (body : List Byte) : crc (body ++ bytes16 (crc body)) = 0 := by
  have own : (bytesBits (bytes16 (crc body))).foldl crcBit (crc body) = crc body <<< 16 := by
    rw [bytesBits_bytes16, foldl_crcBit_own_bits _ le_rfl]
  rw [crc, bytesBits_append, List.foldl_append]
  refine own.trans ?_
  simp

end Sys2Proof.Machine
end

section
/-! The frame on the line: what a stretch's judgement reads of it, and what any wrong cell does (R131, R133 to R135,
R193 to R196). -/

namespace Sys2Proof.Machine

/-! ### The cells of a sealed body (R131, R195) -/

/-- The cells of a body of bytes between the two patterns, its CRC behind it. -/
def sealedCells (body : List Byte) : List Bool :=
  startPattern ++ (bytesBits (body ++ bytes16 (crc body)) ++ endPattern)

/-- The nine header bytes of a frame. -/
abbrev frameHeader (kind : FrameKind) (f : Frame) : List Byte :=
  headerBytes f.sender f.destination kind f.sequence f.sync f.stamp f.payload.length

theorem frameCells_eq_sealedCells (kind : FrameKind) (f : Frame) :
    frameCells kind f = sealedCells (frameHeader kind f ++ f.payload) :=
  List.append_assoc ..

theorem length_sealedCells (body : List Byte) : (sealedCells body).length = 40 + 8 * body.length := by
  simp [sealedCells, length_bytesBits, startPattern, endPattern, bytes16]
  omega

theorem set_not_ne_self {l : List Bool} {k : Nat} {b : Bool} (h : l[k]? = some b) : l.set k (!b) ≠ l := by
  intro e
  have hk : k < l.length := (List.getElem?_eq_some_iff.mp h).1
  have wrong : (l.set k (!b))[k]? = some (!b) := List.getElem?_set_self hk
  rw [e, h] at wrong
  simp at wrong

/-- A list cut in two and changed in one place is changed in one of its parts. -/
theorem append_set_cases {l l' m m' : List Bool} {k : Nat} {b c : Bool} (h : (l ++ m)[k]? = some b)
    (e : (l ++ m).set k c = l' ++ m') (hl : l.length = l'.length) :
    (l[k]? = some b ∧ l.set k c = l') ∨ ∃ j, m[j]? = some b ∧ m.set j c = m' := by
  by_cases hk : k < l.length
  · rw [List.getElem?_append_left hk] at h
    rw [List.set_append_left _ _ hk] at e
    exact .inl ⟨h, (List.append_inj e ((List.length_set ..).trans hl)).1⟩
  · rw [List.getElem?_append_right (not_lt.mp hk)] at h
    rw [List.set_append_right _ _ (not_lt.mp hk)] at e
    exact .inr ⟨_, h, (List.append_inj e hl).2⟩

/-- One wrong cell leaves no sealed body: a pattern differs from itself, or the CRC's register is not left clear. -/
theorem sealedCells_set_ne {body : List Byte} {k : Nat} {b : Bool} (h : (sealedCells body)[k]? = some b)
    (other : List Byte) : (sealedCells body).set k (!b) ≠ sealedCells other := by
  intro e
  have same : (bytesBits (body ++ bytes16 (crc body))).length = (bytesBits (other ++ bytes16 (crc other))).length := by
    have := congrArg List.length e
    simp only [List.length_set, length_sealedCells] at this
    simp only [length_bytesBits, List.length_append, bytes16, List.length_cons, List.length_nil]
    omega
  obtain ⟨start, wrong⟩ | ⟨j, rest, wrong⟩ := append_set_cases h e rfl
  · exact set_not_ne_self start wrong
  obtain ⟨bits, wrong⟩ | ⟨j, ending, wrong⟩ := append_set_cases rest wrong same
  · refine foldl_crcBit_set_ne bits 0xFFFF#16 ?_
    rw [wrong]
    exact (crc_sealed other).trans (crc_sealed body).symm
  · exact set_not_ne_self ending wrong

/-! ### The judgement of a sealed body (R133, R134) -/

/-- What a body judged clean must be: long enough for its parts, ending in the end pattern, with a CRC that fits. -/
theorem judgeBody_clean {rest : List Bool} {more : Bool} {kind : FrameKind} {f : Frame} {n : Nat}
    {header payload : List Byte} (hh : header = bitsBytes (rest.take 72)) (hn : n = natAt header 8)
    (hp : payload = bitsBytes ((rest.drop 72).take (8 * n))) (h : judgeBody rest more = .clean kind f) :
    rest.length = 72 + 8 * n + 16 + 8 ∧ rest.drop (72 + 8 * n + 16) = endPattern ∧
      bitsBytes ((rest.drop (72 + 8 * n)).take 16) = bytes16 (crc (header ++ payload)) := by
  subst hh hn hp
  simp only [judgeBody, ite_eq_iff, reduceCtorEq, and_false, false_or, not_not, not_or] at h
  obtain ⟨-, -, ⟨length, -⟩, ending, check, -⟩ := h
  exact ⟨length, ending, check⟩

/-- What is judged clean is a sealed body of bytes. -/
theorem judge_clean_sealed {breakNoted more : Bool} {cells : List Bool} {kind : FrameKind} {f : Frame}
    (h : judge breakNoted cells more = .clean kind f) : ∃ body, cells = sealedCells body := by
  obtain ⟨rfl, start, -, -⟩ := judge_clean h
  rw [judge, if_neg Bool.false_ne_true, if_neg (not_not.mpr start)] at h
  obtain ⟨rest, hrest⟩ : ∃ rest, rest = cells.drop 16 := ⟨_, rfl⟩
  obtain ⟨n, hn⟩ : ∃ n, n = natAt (bitsBytes (rest.take 72)) 8 := ⟨_, rfl⟩
  obtain ⟨length, ending, check⟩ := judgeBody_clean rfl hn rfl (hrest ▸ h)
  have cut : ∀ i j, rest.drop i = (rest.drop i).take j ++ rest.drop (i + j) := fun i j => by
    rw [← List.drop_drop, List.take_append_drop]
  have header : bytesBits (bitsBytes (rest.take 72)) = rest.take 72 :=
    bytesBits_bitsBytes (n := 9) (by rw [List.length_take]; omega)
  have payload : bytesBits (bitsBytes ((rest.drop 72).take (8 * n))) = (rest.drop 72).take (8 * n) :=
    bytesBits_bitsBytes (n := n) (by rw [List.length_take, List.length_drop]; omega)
  have crcBits : bytesBits (bitsBytes ((rest.drop (72 + 8 * n)).take 16)) = (rest.drop (72 + 8 * n)).take 16 :=
    bytesBits_bitsBytes (n := 2) (by rw [List.length_take, List.length_drop]; omega)
  refine ⟨bitsBytes (rest.take 72) ++ bitsBytes ((rest.drop 72).take (8 * n)), ?_⟩
  rw [sealedCells, ← check, bytesBits_append, bytesBits_append, header, payload, crcBits, ← ending, List.append_assoc,
    ← cut, List.append_assoc, ← cut, List.take_append_drop, hrest, ← start, List.take_append_drop]

/-- A body's judgement by the four runs of cells it is read in. -/
theorem judgeBody_append {header payload check : List Byte} (hh : header.length = 9)
    (hp : natAt header 8 = payload.length) (h32 : payload.length ≤ 32) (hc : check.length = 2) (ending : List Bool)
    (more : Bool) :
    judgeBody (bytesBits header ++ (bytesBits payload ++ (bytesBits check ++ ending))) more =
      if ending.length ≠ 8 ∨ more = true then .broken
      else if ending ≠ endPattern then .broken
      else if check ≠ bytes16 (crc (header ++ payload)) then .crcError
      else judgeHeader header payload := by
  have h9 : (bytesBits header).length = 72 := by rw [length_bytesBits, hh]
  have h8 := length_bytesBits payload
  have h2 : (bytesBits check).length = 16 := by rw [length_bytesBits, hc]
  have dropped : (bytesBits header ++ (bytesBits payload ++ (bytesBits check ++ ending))).drop
      (72 + 8 * payload.length) = bytesBits check ++ ending := by
    rw [← List.drop_drop, List.drop_left' h9, List.drop_left' h8]
  have last : (bytesBits header ++ (bytesBits payload ++ (bytesBits check ++ ending))).drop
      (72 + 8 * payload.length + 16) = ending := by
    rw [← List.drop_drop, dropped, List.drop_left' h2]
  have total : (bytesBits header ++ (bytesBits payload ++ (bytesBits check ++ ending))).length =
      72 + 8 * payload.length + 16 + ending.length := by
    simp only [List.length_append, h9, h8, h2]
    omega
  have long : ¬72 + 8 * payload.length + 16 + ending.length < 72 := by omega
  simp only [judgeBody, List.take_left' h9, bitsBytes_bytesBits, hp, total, last, dropped, List.drop_left' h9,
    List.take_left' h8, List.take_left' h2, if_neg long, if_neg h32.not_gt, ne_eq, Nat.add_left_cancel_iff]

/-- A sealed body whose header gives its payload's length is judged by its header, unless anything follows it. -/
theorem judge_sealedCells {header payload : List Byte} (hh : header.length = 9) (hp : natAt header 8 = payload.length)
    (h32 : payload.length ≤ 32) (tail : List Bool) (more : Bool) :
    judge false (sealedCells (header ++ payload) ++ tail) more =
      if more = true ∨ tail ≠ [] then .broken else judgeHeader header payload := by
  have start : startPattern.length = 16 := rfl
  rw [judge, if_neg Bool.false_ne_true, sealedCells, List.append_assoc, List.take_left' start, if_neg (not_not.mpr rfl),
    List.drop_left' start, bytesBits_append, bytesBits_append, List.append_assoc, List.append_assoc, List.append_assoc,
    judgeBody_append hh hp h32 rfl]
  cases tail with
  | nil => simp [endPattern, bytesBits, byteBits]
  | cons b rest => rw [if_pos (.inl (by simp [endPattern, bytesBits, byteBits])), if_pos (.inr nofun)]

/-! ### The header of a well-formed frame (R135, R194, R196) -/

/-- No kind of frame has more than 32 bytes of payload (R196). -/
theorem length_le_of_lengthAllowed {kind : FrameKind} {n : Nat} (h : lengthAllowed kind n = true) : n ≤ 32 := by
  cases kind <;> simp [lengthAllowed] at h <;> omega

theorem kindOf_kindCode (kind : FrameKind) : kindOf (BitVec.ofNat 4 (kindCode kind)).toNat = some kind := by
  cases kind <;> rfl

theorem syncOf_syncCode (sync : SyncState) : syncOf (byteOf (syncCode sync)) = sync := by
  cases sync <;> rfl

theorem byteOf_toNat {n : Nat} (h : n < 256) : (byteOf n).toNat = n := Nat.mod_eq_of_lt h

/-- A word's four bytes, the most significant first, make up the word. -/
theorem bytes32_append (x : Time) :
    x.extractLsb' 24 8 ++ x.extractLsb' 16 8 ++ x.extractLsb' 8 8 ++ x.extractLsb' 0 8 = x := by
  rw [BitVec.extractLsb'_append_extractLsb'_eq_extractLsb' (show 24 = 16 + 8 from rfl),
    BitVec.extractLsb'_append_extractLsb'_eq_extractLsb' (show 16 = 8 + 8 from rfl),
    BitVec.extractLsb'_append_extractLsb'_eq_extractLsb' (show 8 = 0 + 8 from rfl)]
  exact BitVec.extractLsb'_eq_self

theorem frame_wellFormed_iff {kind : FrameKind} {f : Frame} :
    f.wellFormed kind = true ↔
      (1 ≤ f.sender ∧ f.sender ≤ 30) ∧ (1 ≤ f.destination ∧ f.destination ≤ 31) ∧
        lengthAllowed kind f.payload.length = true := by
  simp [Frame.wellFormed, and_assoc]

theorem natAt_frameHeader_length {kind : FrameKind} {f : Frame} (h : f.payload.length ≤ 32) :
    natAt (frameHeader kind f) 8 = f.payload.length := byteOf_toNat (by omega)

/-- The header of a well-formed frame passes the tests of R135 and gives back each field. -/
theorem judgeHeader_frameHeader {kind : FrameKind} {f : Frame} (h : f.wellFormed kind = true) :
    judgeHeader (frameHeader kind f) f.payload = .clean kind f := by
  obtain ⟨⟨s1, s30⟩, ⟨d1, d31⟩, length⟩ := frame_wellFormed_iff.mp h
  have code : (byteAt (frameHeader kind f) 2).extractLsb' 4 4 = BitVec.ofNat 4 (kindCode kind) :=
    BitVec.extractLsb'_append_eq_left
  have sequence : (byteAt (frameHeader kind f) 2).extractLsb' 0 4 = f.sequence := BitVec.extractLsb'_append_eq_right
  have sender : natAt (frameHeader kind f) 0 = f.sender := byteOf_toNat (by omega)
  have destination : natAt (frameHeader kind f) 1 = f.destination := byteOf_toNat (by omega)
  have sync : syncOf (byteAt (frameHeader kind f) 3) = f.sync := syncOf_syncCode f.sync
  have stamp : word32At (frameHeader kind f) 4 = f.stamp := bytes32_append f.stamp
  simp only [judgeHeader, code, kindOf_kindCode, sender, destination, sequence, sync, stamp]
  exact if_pos ⟨s1, s30, d1, d31, length⟩

/-- A well-formed frame's cells are read back as the frame, unless anything follows them. -/
theorem judge_frameCells {kind : FrameKind} {f : Frame} (h : f.wellFormed kind = true) (tail : List Bool)
    (more : Bool) :
    judge false (frameCells kind f ++ tail) more = if more = true ∨ tail ≠ [] then .broken else .clean kind f := by
  have h32 := length_le_of_lengthAllowed (frame_wellFormed_iff.mp h).2.2
  rw [frameCells_eq_sealedCells, judge_sealedCells rfl (natAt_frameHeader_length h32) h32, judgeHeader_frameHeader h]

/-- Settles O59: the header gives back each field of the frame, and the CRC and the end pattern are those it was sent
with. -/
theorem frameRoundTrip : Obligations.FrameRoundTrip := by
  intro kind f hw
  refine ⟨?_, ?_⟩
  · rw [frameCells_eq_sealedCells, length_sealedCells, List.length_append, show (frameHeader kind f).length = 9 from rfl]
    omega
  · simpa using judge_frameCells hw [] false

/-- Settles O60: the two patterns and the CRC between them tell one wrong cell, and the length what follows. -/
theorem wrongCellIsNeverClean : Obligations.WrongCellIsNeverClean := by
  intro kind kind' f f' k b breakNoted more tail hw
  refine ⟨fun hk hc => ?_, fun hx => ?_⟩
  · rw [frameCells_eq_sealedCells] at hk hc
    obtain ⟨body, e⟩ := judge_clean_sealed hc
    exact sealedCells_set_ne hk body e
  · cases breakNoted with
    | true => rfl
    | false =>
      rw [judge_frameCells hw, if_pos (by simpa using hx)]

end Sys2Proof.Machine
end

section
/-! The completion of every command (R135, R136), and the collision that breaks an attempt off (R142, R143, R156). -/

namespace Sys2Proof.Machine

/-! ### What a command answers -/

/-- A term that names a command completes, and any other is refused (R135, log entry 18). -/
abbrev AnswersByForm (i : Instr) (s : State) : Prop :=
  (i.wellFormed = true → ∃ t, exec i s = .next t) ∧ (i.wellFormed = false → exec i s = .refused .illFormed)

section

variable {i : Instr} {s : State}

/-- A row whose every term names a command. -/
theorem AnswersByForm.of_always (hw : i.wellFormed = true) (h : ∃ t, exec i s = .next t) : AnswersByForm i s :=
  ⟨fun _ => h, fun hw' => absurd (hw.symm.trans hw') nofun⟩

/-- A row whose meaning tests its operands. -/
theorem AnswersByForm.of_whenFormed {t : State} (h : exec i s = whenFormed i t) : AnswersByForm i s := by
  obtain ⟨hw, e⟩ | ⟨hw, e⟩ := whenFormed_cases i t
  · exact .of_always hw ⟨t, h.trans e⟩
  · exact ⟨fun hw' => absurd (hw.symm.trans hw') nofun, fun _ => h.trans e⟩

/-- A stretch's end completes whatever the stretch is judged to be (R132 to R134, R136). -/
theorem execLineGoesQuiet_next (cells : List Bool) (more first : Bool) (s : State) :
    ∃ t, execLineGoesQuiet cells more first s = .next t := by
  unfold execLineGoesQuiet
  split
  · exact ⟨_, rfl⟩
  · split
    · exact ⟨_, rfl⟩
    · obtain ⟨_, e, -⟩ | ⟨_, _, _, u, -, -, -, ⟨-, -, e⟩ | ⟨-, -, e⟩⟩ := s.endStretch_cases cells more first
      all_goals exact ⟨_, e⟩

theorem execDuplicateNumberFrame_answers (kind : FrameKind) (f : Frame) (overtaken : Option Overtaken) (s : State) :
    AnswersByForm (.duplicateNumberFrame kind f overtaken) s := by
  refine ⟨fun hw => ?_, fun hw => ?_⟩
  · obtain ⟨-, e⟩ | ⟨-, -, e⟩ | ⟨-, _, _, -, -, e⟩ := execDuplicateNumberFrame_cases s hw
    all_goals exact ⟨_, e⟩
  · exact if_pos (by simp [hw])

end

/-- Settles O3: each row completes always, or tests its operands once and then completes. -/
theorem wellFormedCommandsComplete : Obligations.WellFormedCommandsComplete := by
  intro i s
  change AnswersByForm i s
  cases i with
  | lineGoesQuiet cells more first => exact .of_always rfl (execLineGoesQuiet_next cells more first s)
  | duplicateNumberFrame kind f overtaken => exact execDuplicateNumberFrame_answers kind f overtaken s
  | powerOn | resetNAsserted | configReadEnd | captureEdge | holdOffExpiry | entryDue | pulseEnd | burstHalfEnd
  | deadBandExpiry | genHighEnd | genFrameEnd | activityBegins | breakHeard | quietCountStep | transmissionBegins
  | collision | breakRelease | ownFrameCleanEnd | stampPointOfIncomingFrame | stampPointOfOwnFrame
  | inputEdgeNotOfInterest => exact .of_always rfl ⟨_, rfl⟩
  | _ => exact .of_whenFormed rfl

/-! ### The frame that meets a collision (R142, R152) -/

/-- A collision touches the frame on the line alone. -/
theorem map_collide {a b : List TxFrame} {f : TxFrame} (hf : f.onLine = true) (hab : ∀ g ∈ a ++ b, g.onLine = false) :
    (a ++ f :: b).map TxFrame.collide = a ++ { f with attempts := f.attempts + 1, onLine := false } :: b := by
  have others : ∀ l ⊆ a ++ b, l.map TxFrame.collide = l := fun l hl =>
    (List.map_congr_left fun g hg => if_neg (by simp [hab g (hl hg)])).trans (List.map_id l)
  rw [List.map_append, List.map_cons, others a (List.subset_append_left a b), others b (List.subset_append_right a b),
    TxFrame.collide, if_pos hf]

/-- The frames behind and ahead of the one on the line are left when it goes. -/
theorem filter_not_onLine {a b : List TxFrame} {f : TxFrame} (hf : f.onLine = true)
    (hab : ∀ g ∈ a ++ b, g.onLine = false) :
    (a ++ f :: b).filter (!·.onLine) = a ++ b := by
  rw [List.filter_append, List.filter_cons_of_neg (by simp [hf]), ← List.filter_append]
  exact List.filter_eq_self.mpr fun g hg => by simp [hab g hg]

/-- Settles O45: the frame on the line keeps its place with one attempt more, or is given up at its sixth collision. -/
theorem collisionBreaksOff : Obligations.CollisionBreaksOff := by
  rintro s a b f v n hc hq hf hab rfl rfl
  have online := State.frameOnLine_eq hq hf hab
  refine ⟨fun h5 => ?_, fun u hu h5 => ?_⟩
  · have again : ¬attemptLimit ≤ f.attempts + 1 := by simp [attemptLimit]; omega
    rw [exec, execCollision, if_pos hc, online]
    simp only [if_neg again, State.drawBackoff, State.startBreak, hq, map_collide hf hab]
    rfl
  · have last : attemptLimit ≤ f.attempts + 1 := by simp [attemptLimit]; omega
    rw [exec, execCollision, if_pos hc, online]
    simp only [if_pos last, State.abandon, State.startBreak, hq, filter_not_onLine hf hab]
    subst hu
    rfl

end Sys2Proof.Machine
end

section
/-! An arriving frame: its place in a queue with room, the frame it displaces in a full one, and its loss (R149 to R151,
R157, R158). -/

namespace Sys2Proof.Machine

/-! ### The place of a frame, and the frame displaced (R149, R151) -/

/-- A frame inserted parts a queue in class order: behind its class and lower, ahead of every higher. -/
theorem insertFrame_split (f : TxFrame) {l : List TxFrame} (h : l.Pairwise fun a b => a.kind.cls ≤ b.kind.cls) :
    ∃ a b, l = a ++ b ∧ insertFrame f l = a ++ f :: b ∧ (∀ g ∈ a, g.kind.cls ≤ f.kind.cls) ∧
      ∀ g ∈ b, f.kind.cls < g.kind.cls := by
  induction l with
  | nil => exact ⟨[], [], rfl, rfl, List.forall_mem_nil _, List.forall_mem_nil _⟩
  | cons x rest ih =>
    obtain ⟨hx, hr⟩ := List.pairwise_cons.mp h
    by_cases hle : x.kind.cls ≤ f.kind.cls
    · obtain ⟨a, b, rfl, hi, ha, hb⟩ := ih hr
      exact ⟨x :: a, b, rfl, by rw [insertFrame, if_pos hle, hi]; rfl, List.forall_mem_cons.mpr ⟨hle, ha⟩, hb⟩
    · have above := Nat.not_le.mp hle
      exact ⟨[], x :: rest, rfl, by rw [insertFrame, if_neg hle]; rfl, List.forall_mem_nil _,
        List.forall_mem_cons.mpr ⟨above, fun g hg => above.trans_le (hx g hg)⟩⟩

/-- No frame off the line stands in a higher class, or in the same class and younger. -/
abbrev TxFrame.LastOf (v : TxFrame) (l : List TxFrame) : Prop :=
  ∀ g ∈ l, g.onLine = false → g.kind.cls < v.kind.cls ∨ (g.kind.cls = v.kind.cls ∧ g.age ≤ v.age)

/-- In a queue in order, the last of the frames that may be displaced is the youngest of the highest class. -/
theorem victim_eq_of_lastOf {cls : Nat} {l : List TxFrame} {v : TxFrame}
    (hl : l.Pairwise fun a b => a.kind.cls < b.kind.cls ∨ (a.kind.cls = b.kind.cls ∧ a.age < b.age)) (hv : v ∈ l)
    (ho : v.onLine = false) (hc : cls < v.kind.cls) (hlast : v.LastOf l) : victim cls l = some v := by
  cases hw : victim cls l with
  | none => exact absurd (victim_eq_none_iff.mp hw v hv ho) (Nat.not_le.mpr hc)
  | some w =>
    obtain ⟨hwl, hwo, -⟩ := mem_of_victim hw
    obtain ⟨before, hsplit⟩ := List.getLast?_eq_some_iff.mp hw
    have hvm : v ∈ before ++ [w] := hsplit ▸ List.mem_filter.mpr ⟨hv, by simp [ho, hc]⟩
    obtain hvb | hvw := List.mem_append.mp hvm
    · have behind := (List.pairwise_append.mp (hsplit ▸ hl.filter _)).2.2 v hvb w (List.mem_singleton_self w)
      have := hlast w hwl hwo
      omega
    · rw [List.mem_singleton.mp hvw]

/-! ### The three outcomes of an arrival (R150, R151, R157) -/

section

variable {s : State} {kind : TxKind} (d : Nat) (q : BitVec 4) (p : List Byte) (r : Bool)

/-- With no emptying under way, no frame arrives late. -/
theorem State.arrivesLate_of_unshut (h : s.queueShutFrom = none) : s.arrivesLate = false := by
  rw [State.arrivesLate, h]
  rfl

theorem State.arrive_of_room (ha : s.station = .active) (hu : s.queueShutFrom = none) (hl : s.queue.length < 16) :
    s.arrive kind d q p r = s.placeFrame (.arriving kind d q p r s.nextAge) := by
  simp [State.arrive, ha, State.arrivesLate_of_unshut hu, queueLimit, hl]

theorem State.arrive_of_victim (ha : s.station = .active) (hu : s.queueShutFrom = none) (hl : 16 ≤ s.queue.length)
    (hk : kind.cls ≤ 1) {v : TxFrame} (hv : victim kind.cls s.queue = some v) :
    s.arrive kind d q p r =
      State.placeFrame (.arriving kind d q p r s.nextAge)
        { s with queue := s.queue.erase v, counters := s.counters.countLost v.kind } := by
  simp [State.arrive, ha, State.arrivesLate_of_unshut hu, queueLimit, Nat.not_lt.mpr hl,
    Nat.not_le.mpr (Nat.lt_succ_of_le hk), hv]

theorem State.arrive_of_no_place
    (h : s.station ≠ .active ∨
      16 ≤ s.queue.length ∧ (2 ≤ kind.cls ∨ ∀ g ∈ s.queue, g.onLine = false → g.kind.cls ≤ kind.cls)) :
    s.arrive kind d q p r = s.loseFrame kind := by
  obtain h | ⟨hl, hk | hv⟩ := h
  · simp [State.arrive, h]
  · simp [State.arrive, queueLimit, Nat.not_lt.mpr hl, hk]
  · simp [State.arrive, queueLimit, Nat.not_lt.mpr hl, victim_eq_none_iff.mpr hv]

/-- An arrival gives out at most one number. -/
theorem State.arrive_nextAge_le : (s.arrive kind d q p r).nextAge ≤ s.nextAge + 1 := by
  obtain ⟨-, -, -, e⟩ | ⟨-, -, -, v, -, e⟩ | ⟨-, e⟩ := State.arrive_cases kind d q p r s <;> rw [e]
  · exact le_rfl
  · exact le_rfl
  · exact Nat.le_succ _

end

/-- Settles O47: room, a displacement and a loss are the three outcomes of an arrival, and a queue shut from an age on tells
only the frames of that age and younger. -/
theorem arrivalsArePlacedOrLost : Obligations.ArrivalsArePlacedOrLost := by
  rintro s t kind d q p r f ⟨hopen, -, horder, -⟩ rfl rfl
  refine ⟨?_, fun ha hl => ?_, fun v hv ha hl hk ho hc hlast => ?_, fun h => ?_, ?_⟩
  · obtain ⟨_, _, _, e⟩ := s.arrive_touches kind d q p r
    rw [e]
  · rw [State.arrive_of_room d q p r ha hopen hl]
    have classes : s.queue.Pairwise fun a b => a.kind.cls ≤ b.kind.cls :=
      horder.imp fun h => h.elim le_of_lt fun h => h.1.le
    exact ⟨rfl, insertFrame_split (.arriving kind d q p r s.nextAge) classes⟩
  · have nodup : s.queue.Nodup := horder.imp fun h e => by subst e; omega
    have hlen : (s.queue.erase v).length = 15 := by rw [List.length_erase_of_mem hv, hl]
    rw [State.arrive_of_victim d q p r ha hopen hl.ge hk (victim_eq_of_lastOf horder hv ho hc hlast)]
    refine ⟨rfl, fun g => ?_, ?_⟩
    · rw [State.placeFrame_queue, mem_insertFrame, nodup.mem_erase_iff, and_comm (a := g ≠ v)]
      rfl
    · rw [State.placeFrame_queue, length_insertFrame, hlen]
  · exact State.arrive_of_no_place d q p r (h.imp_right fun ⟨hl, h⟩ => ⟨hl.ge, h⟩)
  · rintro u age rfl
    refine ⟨fun late => ?_, fun early => ?_⟩
    · exact State.arrive_of_late (s := s.shutAt age) (decide_eq_true late) kind d q p r
    · exact (ArrivesBefore.arrive kind d q p r).same s age hopen ((State.arrive_nextAge_le d q p r).trans early)

end Sys2Proof.Machine
end

section
/-! The settle point in ACTIVE, LISTENING and SILENCED: the STAMP, the listen count and the activation, whatever the order of
the acts (R154, R155, R186, R187). -/

namespace Sys2Proof.Machine

/-! ### A frame in the queue, or a full queue (R150, R151) -/

/-- A queue that holds a frame of the kind looked for, or has no room for one. -/
abbrev QueuedOrFull (P : TxFrame → Prop) (l : List TxFrame) : Prop := (∃ g ∈ l, P g) ∨ 16 ≤ l.length

/-- A frame that the station queues on its own account: from it to all, with no payload (R197). -/
abbrev TxFrame.Announces (k : TxKind) (g : TxFrame) : Prop := g.kind = k ∧ g.destination = 31 ∧ g.payload = []

section

variable {s : State} {kind : TxKind} (d : Nat) (q : BitVec 4) (p : List Byte) (r : Bool)

/-- An arrival takes a frame from the queue only when it is full, and leaves it full. -/
theorem QueuedOrFull.arrive {P : TxFrame → Prop} (h : QueuedOrFull P s.queue) :
    QueuedOrFull P (s.arrive kind d q p r).queue := by
  obtain ⟨-, -, -, e⟩ | ⟨-, -, hl, v, hv, e⟩ | ⟨-, e⟩ := State.arrive_cases kind d q p r s <;> rw [e]
  · refine h.imp (fun ⟨g, hg, hp⟩ => ⟨g, (mem_insertFrame ..).mpr (.inr hg), hp⟩) fun hl => ?_
    rw [State.placeFrame_queue, length_insertFrame]
    exact Nat.le_succ_of_le hl
  · have full : 16 ≤ (s.queue.erase v).length + 1 := by
      rw [List.length_erase_of_mem (mem_of_victim hv).1]
      omega
    exact .inr (full.trans_eq (length_insertFrame ..).symm)
  · exact h

/-- A frame that arrives in ACTIVE is queued, or the queue is full. -/
theorem QueuedOrFull.of_arrive (ha : s.station = .active) (hu : s.queueShutFrom = none) {P : TxFrame → Prop}
    (hp : P (.arriving kind d q p r s.nextAge)) : QueuedOrFull P (s.arrive kind d q p r).queue := by
  obtain ⟨-, -, -, e⟩ | ⟨-, -, -, v, -, e⟩ | ⟨h, e⟩ := State.arrive_cases kind d q p r s <;> rw [e]
  · exact .inl ⟨_, (mem_insertFrame ..).mpr (.inl rfl), hp⟩
  · exact .inl ⟨_, (mem_insertFrame ..).mpr (.inl rfl), hp⟩
  · obtain h | h | h := h
    · exact absurd ha h
    · exact absurd ((State.arrivesLate_of_unshut hu).symm.trans h) nofun
    · exact .inr h.1

/-- No frame of one kind joins the queue when a frame of another arrives. -/
theorem State.mem_of_mem_arrive {g : TxFrame} (hg : g ∈ (s.arrive kind d q p r).queue) (hk : g.kind ≠ kind) :
    g ∈ s.queue := by
  obtain ⟨-, -, -, e⟩ | ⟨-, -, -, v, -, e⟩ | ⟨-, e⟩ := State.arrive_cases kind d q p r s <;> rw [e] at hg
  · exact ((mem_insertFrame ..).mp hg).resolve_left fun h => hk (h ▸ rfl)
  · exact List.mem_of_mem_erase (((mem_insertFrame ..).mp hg).resolve_left fun h => hk (h ▸ rfl))
  · exact hg

end

/-! ### What the acts write (R8) -/

/-- The acts of a list, one after another. -/
abbrev State.settleActs (news : SettleNews) (l : List SettleAct) (s : State) : State :=
  l.foldl (fun t a => t.settleAct news a) s

/-- What the acts of a settle point leave but for the listen count of a station in LISTENING. -/
abbrev State.duty (s : State) : StationState × Nat × LineInterface × Settings × Option Nat :=
  (s.station, s.listenCount, s.line, s.settings, s.queueShutFrom)

/-- An act other than the count in LISTENING leaves these; stamp duty alone writes the finished flag, and clears it. -/
theorem settleAct_writes (news : SettleNews) (a : SettleAct) (s : State) :
    ((a = .listenCount → s.station ≠ .listening) → (s.settleAct news a).duty = s.duty) ∧
      (s.settleAct news a).finished = if a = .stampDuty then false else s.finished := by
  cases a with
  | agePeers => exact ⟨fun _ => rfl, rfl⟩
  | stampDuty =>
    obtain ⟨_, _, _, e⟩ := s.stampDuty_touches
    rw [State.settleAct, e]
    exact ⟨fun _ => rfl, rfl⟩
  | listenCount =>
    obtain ⟨_, _, _, _, _, _, _, e⟩ := s.countListen_touches
    refine ⟨fun h => ?_, ?_⟩
    · rw [State.settleAct, State.countListen, if_neg (h rfl)]
    · rw [State.settleAct, e]
      rfl
  | hold =>
    rw [State.settleAct]
    split <;> exact ⟨fun _ => rfl, rfl⟩
  | generators =>
    obtain ⟨_, _, e⟩ := s.stepGenerators_touches news.change
    rw [State.settleAct, e]
    exact ⟨fun _ => rfl, rfl⟩
  | schedule =>
    obtain ⟨_, _, _, _, _, e⟩ := s.stepSchedule_touches news.change
    rw [State.settleAct, e]
    exact ⟨fun _ => rfl, rfl⟩

theorem settleActs_duty (news : SettleNews) {l : List SettleAct} {s : State}
    (h : .listenCount ∈ l → s.station ≠ .listening) : (s.settleActs news l).duty = s.duty :=
  foldl_settleAct_keeps (P := fun u => u.duty = s.duty)
    (fun a ha u hu => by
      have same : u.station = s.station := congrArg Prod.fst hu
      exact ((settleAct_writes news a u).1 fun e => same ▸ h (e ▸ ha)).trans hu)
    rfl

theorem settleActs_finished (news : SettleNews) {l : List SettleAct} {s : State}
    (h : .stampDuty ∉ l ∨ s.finished = false) : (s.settleActs news l).finished = s.finished :=
  foldl_settleAct_keeps (P := fun u => u.finished = s.finished)
    (fun a ha u hu => by
      rw [(settleAct_writes news a u).2, hu]
      exact ite_eq_right_iff.mpr fun e => (h.resolve_left fun hn => hn (e ▸ ha)).symm)
    rfl

/-- What every arrival of a NOTICE keeps of the queue, the schedule's act keeps. -/
theorem stepSchedule_queue {Q : List TxFrame → Prop}
    (notice : ∀ (u : State) d p, Q u.queue → Q (u.arrive .notice d 0 p false).queue) (change : Int) (s : State)
    (h : Q s.queue) : Q (s.stepSchedule change).queue := by
  have told : ∀ e o (u : State), Q u.queue → Q (u.notice e o).queue := fun e o u hu => by
    unfold State.notice
    split
    · exact hu
    · exact notice u _ _ hu
  have dropped : ∀ e (u : State), Q u.queue → Q (u.drop e).queue := fun e u hu => told e .dropped _ hu
  refine stepSchedule_keeps (P := fun u => Q u.queue) dropped
    (fire_keeps dropped (fun _ _ hu => hu) (fun c a p u hu => ?_) fun e u hu => ?_) (fun _ _ hu => hu) change s h
  · obtain ⟨_, _, e⟩ := u.takeAction_touches c a p
    rwa [e]
  · unfold State.afterFiring
    dsimp only
    split
    · exact hu
    · exact told _ _ _ hu

/-- What every arrival keeps of the queue, an act keeps; an act but stamp duty makes no STAMP. -/
theorem settleAct_queue {Q : List TxFrame → Prop} {a : SettleAct}
    (arrives : ∀ (u : State) kind d p, (kind = .stamp → a = .stampDuty) → Q u.queue →
      Q (u.arrive kind d 0 p false).queue)
    (news : SettleNews) (s : State) (h : Q s.queue) : Q (s.settleAct news a).queue := by
  cases a with
  | agePeers => exact h
  | stampDuty =>
    rw [State.settleAct, State.stampDuty]
    dsimp only
    split
    · exact arrives _ _ _ _ (fun _ => rfl) h
    · exact h
  | listenCount =>
    unfold State.settleAct State.countListen State.activate
    dsimp only
    repeat' split
    · exact arrives _ _ _ _ nofun h
    · exact arrives _ _ _ _ nofun h
    · exact h
    · exact h
  | hold =>
    rw [State.settleAct]
    split <;> exact h
  | generators =>
    obtain ⟨_, _, e⟩ := s.stepGenerators_touches news.change
    rwa [State.settleAct, e]
  | schedule => exact stepSchedule_queue (fun u d p => arrives u .notice d p nofun) _ _ h

theorem settleActs_queue {Q : List TxFrame → Prop} {l : List SettleAct}
    (arrives : ∀ (u : State) kind d p, (kind = .stamp → .stampDuty ∈ l) → Q u.queue →
      Q (u.arrive kind d 0 p false).queue)
    (news : SettleNews) {s : State} (h : Q s.queue) : Q (s.settleActs news l).queue :=
  foldl_settleAct_keeps (P := fun u => Q u.queue)
    (fun _ ha u hu => settleAct_queue (fun v kind d p hk => arrives v kind d p fun e => hk e ▸ ha) news u hu) h

/-- A frame queued leaves at a settle point only when the queue is full. -/
theorem settleActs_queuedOrFull {P : TxFrame → Prop} (news : SettleNews) (l : List SettleAct) {s : State}
    (h : QueuedOrFull P s.queue) : QueuedOrFull P (s.settleActs news l).queue :=
  settleActs_queue (Q := QueuedOrFull P) (fun _ _ d p _ hu => hu.arrive d 0 p false) news h

/-- Every STAMP held is one of those in a list of frames. -/
abbrev StampsAmong (held l : List TxFrame) : Prop := ∀ g ∈ l, g.kind = .stamp → g ∈ held

/-- The acts but stamp duty make no STAMP. -/
theorem settleActs_stampsAmong {held : List TxFrame} (news : SettleNews) {l : List SettleAct} (hl : .stampDuty ∉ l)
    {s : State} (h : StampsAmong held s.queue) : StampsAmong held (s.settleActs news l).queue :=
  settleActs_queue (Q := StampsAmong held)
    (fun _ _ d p hk hu g hg hs =>
      hu g (State.mem_of_mem_arrive d 0 p false hg fun e => hl (hk (e.symm.trans hs))) hs)
    news h

/-! ### The STAMP (R154) -/

section

variable {s : State}

/-- With the finished flag set, a STAMP held or a full queue, stamp duty leaves the queue. -/
theorem State.stampDuty_queue (h : s.finished = true ∨ QueuedOrFull (·.kind = .stamp) s.queue) :
    s.stampDuty.queue = s.queue := by
  rw [State.stampDuty]
  dsimp only
  split
  case isFalse => rfl
  case isTrue hn =>
    obtain ⟨-, clear, none⟩ := hn
    obtain h | ⟨g, hg, hk⟩ | h := h
    · exact absurd (clear.symm.trans h) nofun
    · exact absurd hk (by simpa using List.any_eq_false.mp none g hg)
    · rw [State.arrive_of_no_place 31 0 [] false (.inr ⟨h, .inl (by decide)⟩)]
      rfl

/-- With the flag clear and no STAMP held, stamp duty in ACTIVE makes one, or the queue is full. -/
theorem State.stampDuty_makes (ha : s.station = .active) (hu : s.queueShutFrom = none) (hf : s.finished = false)
    (hn : ∀ g ∈ s.queue, g.kind ≠ .stamp) :
    QueuedOrFull (TxFrame.Announces .stamp) s.stampDuty.queue := by
  rw [State.stampDuty, if_pos ⟨ha, hf, by simpa using hn⟩]
  exact .of_arrive 31 0 [] false ha hu ⟨rfl, rfl, rfl⟩

/-! ### The listen count (R155, R186, R187) -/

theorem State.countListen_early (hl : s.station = .listening) (hc : s.listenCount + 1 < s.settings.listenTime) :
    s.countListen = { s with listenCount := s.listenCount + 1 } := by
  rw [State.countListen, if_pos hl]
  exact if_neg (Nat.not_le.mpr hc)

/-- The entry into ACTIVE queues a HELLO, and gives a line that is quiet a deferral target. -/
theorem State.activate_joins (hu : s.queueShutFrom = none) :
    s.activate.station = .active ∧ s.activate.listenCount = s.listenCount ∧
      QueuedOrFull (TxFrame.Announces .hello) s.activate.queue ∧
      (s.line.condition = .quiet → s.activate.line.target ≠ none) := by
  obtain ⟨v, hv⟩ : ∃ v : State, v = { s with station := .active, roster := moveToEnd s.settings.station s.roster } :=
    ⟨_, rfl⟩
  have queued : QueuedOrFull (TxFrame.Announces .hello) (v.arrive .hello 31 0 [] false).queue :=
    .of_arrive 31 0 [] false (hv ▸ rfl) (hv ▸ hu) ⟨rfl, rfl, rfl⟩
  obtain ⟨_, _, _, _, e⟩ := s.activate_touches
  refine ⟨by rw [e], by rw [e], ?_, fun hq => ?_⟩
  · rw [State.activate, ← hv]
    dsimp only
    split <;> exact queued
  · obtain ⟨_, _, _, e'⟩ := v.arrive_touches .hello 31 0 [] false
    rw [State.activate, ← hv]
    dsimp only
    rw [if_pos (by rw [e', hv]; exact hq)]
    exact Option.some_ne_none _

/-- At the listen time the station counts itself into ACTIVE. -/
theorem State.countListen_activates (hl : s.station = .listening) (hc : s.settings.listenTime ≤ s.listenCount + 1) :
    s.countListen = State.activate { s with listenCount := s.listenCount + 1 } := by
  rw [State.countListen, if_pos hl]
  exact if_pos hc

end

/-! ### The settle point as a whole (R8) -/

section

variable {order : List SettleAct} {s : State}

/-- One act of a settle point, with those before it and those after it (R8). -/
theorem settle_split_at (hw : SettleAct.isOrder order = true) (a : SettleAct) (s : State) :
    ∃ l₁ l₂, a ∉ l₁ ∧ a ∉ l₂ ∧
      s.settle order =
        (((s.settleUnit.settleActs s.settleNews l₁).settleAct s.settleNews a).settleActs s.settleNews l₂).followPairs := by
  obtain ⟨l₁, l₂, rfl, h1, h2⟩ := exists_split_of_isOrder hw a
  refine ⟨l₁, l₂, h1, h2, ?_⟩
  rw [State.settle, List.foldl_append, List.foldl_cons]

/-- After a settle point the finished flag is clear (R154). -/
theorem settle_finished (hw : SettleAct.isOrder order = true) : (s.settle order).finished = false := by
  obtain ⟨l₁, l₂, -, -, e⟩ := settle_split_at hw .stampDuty s
  have cleared := (settleAct_writes s.settleNews .stampDuty (s.settleUnit.settleActs s.settleNews l₁)).2
  rw [e]
  exact (settleActs_finished _ (.inr cleared)).trans cleared

/-- Outside LISTENING a settle point leaves the station state and the listen count (R186). -/
theorem settle_duty (h : s.station ≠ .listening) : (s.settle order).duty = s.duty :=
  settleActs_duty s.settleNews (s := s.settleUnit) fun _ => h

/-- With a STAMP held or the finished flag set, no STAMP is made (R154). -/
theorem settle_no_stamp (hw : SettleAct.isOrder order = true)
    (h : s.finished = true ∨ ∃ g ∈ s.queue, g.kind = .stamp) : StampsAmong s.queue (s.settle order).queue := by
  obtain ⟨l₁, l₂, h1, h2, e⟩ := settle_split_at hw .stampDuty s
  have before : StampsAmong s.queue (s.settleUnit.settleActs s.settleNews l₁).queue :=
    settleActs_stampsAmong _ h1 fun _ hg _ => hg
  have same := State.stampDuty_queue (s := s.settleUnit.settleActs s.settleNews l₁)
    (h.imp (settleActs_finished _ (.inl h1)).trans fun held => settleActs_queuedOrFull _ _ (.inl held))
  rw [e]
  exact settleActs_stampsAmong _ h2 (same.symm ▸ before)

/-- In ACTIVE, with no STAMP held and the flag clear, a STAMP is made, or the queue is full (R154). -/
theorem settle_stamp (hw : SettleAct.isOrder order = true) (ha : s.station = .active) (hu : s.queueShutFrom = none)
    (hf : s.finished = false) (hn : ∀ g ∈ s.queue, g.kind ≠ .stamp) :
    QueuedOrFull (TxFrame.Announces .stamp) (s.settle order).queue := by
  obtain ⟨l₁, l₂, h1, -, e⟩ := settle_split_at hw .stampDuty s
  generalize hv : s.settleUnit.settleActs s.settleNews l₁ = v at e
  have duty : v.duty = s.duty := hv ▸ settleActs_duty _ (s := s.settleUnit) fun _ => by simp [State.settleUnit, ha]
  have flag : v.finished = s.finished := hv ▸ settleActs_finished _ (.inl h1)
  have none : StampsAmong s.queue v.queue := hv ▸ settleActs_stampsAmong _ h1 fun _ hg _ => hg
  simp only [State.duty, Prod.mk.injEq] at duty
  obtain ⟨station, -, -, -, unshut⟩ := duty
  rw [e]
  exact settleActs_queuedOrFull _ _ (State.stampDuty_makes (station.trans ha) (unshut.trans hu) (flag.trans hf)
    fun g hg hk => hn g (none g hg hk) hk)

/-- In LISTENING the listen count finds the station as it stood, and the acts after it leave what it made of it. -/
theorem settle_counts (hw : SettleAct.isOrder order = true) (s : State) :
    ∃ (u : State) (l : List SettleAct), u.duty = s.duty ∧ (s.settle order).duty = u.countListen.duty ∧
      (s.settle order).queue = (u.countListen.settleActs s.settleNews l).queue := by
  obtain ⟨l₁, l₂, h1, h2, e⟩ := settle_split_at hw .listenCount s
  refine ⟨_, l₂, settleActs_duty s.settleNews (s := s.settleUnit) fun h => absurd h h1, ?_, ?_⟩ <;> rw [e]
  · exact settleActs_duty _ fun h => absurd h h2
  · rfl

/-- Before the listen time a settle point counts, and the station listens on (R186). -/
theorem settle_listening (hw : SettleAct.isOrder order = true) (hl : s.station = .listening)
    (hc : s.listenCount + 1 < s.settings.listenTime) :
    (s.settle order).station = .listening ∧ (s.settle order).listenCount = s.listenCount + 1 := by
  obtain ⟨u, l, same, after, -⟩ := settle_counts hw s
  simp only [State.duty, Prod.mk.injEq] at same after
  obtain ⟨hstation, hcount, -, hsettings, -⟩ := same
  obtain ⟨station, count, -⟩ := after
  rw [station, count, State.countListen_early (hstation.trans hl) (by rwa [hcount, hsettings])]
  exact ⟨hstation.trans hl, congrArg (· + 1) hcount⟩

/-- At the listen time a settle point makes the station ACTIVE (R155, R186, R187). -/
theorem settle_activates (hw : SettleAct.isOrder order = true) (hl : s.station = .listening) (hu : s.queueShutFrom = none)
    (hc : s.settings.listenTime ≤ s.listenCount + 1) :
    (s.settle order).station = .active ∧ (s.settle order).listenCount = s.listenCount + 1 ∧
      QueuedOrFull (TxFrame.Announces .hello) (s.settle order).queue ∧
      (s.line.condition = .quiet → (s.settle order).line.target ≠ none) := by
  obtain ⟨u, l, same, after, queue⟩ := settle_counts hw s
  simp only [State.duty, Prod.mk.injEq] at same after
  obtain ⟨hstation, hcount, hline, hsettings, hshut⟩ := same
  obtain ⟨station, count, line, -⟩ := after
  rw [State.countListen_activates (hstation.trans hl) (by rwa [hcount, hsettings])] at station count line queue
  obtain ⟨active, counted, queued, target⟩ :=
    State.activate_joins (s := { u with listenCount := u.listenCount + 1 }) (hshut.trans hu)
  rw [station, count, line, queue]
  exact ⟨active, counted.trans (congrArg (· + 1) hcount), settleActs_queuedOrFull _ l queued,
    fun quiet => target (hline.symm ▸ quiet)⟩

end

/-- Settles O48: the law of a quiet station gives the empty queue outside ACTIVE, and the one act that concerns each part
of the statement is found between acts that do not. -/
theorem listenTimeAndStampDuty : Obligations.ListenTimeAndStampDuty := by
  intro order s t hx he hq hu
  have hw : SettleAct.isOrder order = true := (whenFormed_eq_next.mp hx).1
  obtain rfl := exec_settlePoint hx he
  have quiet : (s.settle order).QuietStationLaw := (Within.settle order s).keeps_quietStation hq
  refine ⟨settle_finished hw, fun ha => ?_, fun hl hc => ?_, fun hl hc => ?_, fun hs => ?_⟩
  · have duty := settle_duty (order := order) (s := s) (by simp [ha])
    simp only [State.duty, Prod.mk.injEq] at duty
    obtain ⟨station, count, -⟩ := duty
    exact ⟨station.trans ha, count, settle_no_stamp hw, settle_stamp hw ha hu⟩
  · obtain ⟨station, count⟩ := settle_listening hw hl hc
    exact ⟨station, count, (quiet.1 (by simp [station])).1⟩
  · exact settle_activates hw hl hu hc
  · have duty := settle_duty (order := order) (s := s) (by simp [hs])
    simp only [State.duty, Prod.mk.injEq] at duty
    obtain ⟨station, count, -⟩ := duty
    exact ⟨station.trans hs, count, (quiet.1 (by simp [station, hs])).1⟩

end Sys2Proof.Machine
end

section
/-! RESTART: pending until its reply leaves, or at once, and what it leaves when it takes effect (R156, R174, R175, R191). -/

namespace Sys2Proof.Machine

/-! ### How a RESTART is concluded (R156, R174, R175) -/

section

variable {s : State} {f : Frame}

/-- A RESTART taken: an addressed one sets restart-pending, the record is written, and the RESTART is concluded. -/
theorem State.Takes.exec_restart (ht : s.Takes .control f) (hw : f.wellFormed .control = true) (hp : f.payload = [3]) :
    exec (.restart f) s =
      .next
        (restartConclude s.restartPending f .ok 0
          { (s.receive f).writeRecord f.sender ⟨.control, f.sequence, .ok, 0⟩ with
            restartPending := s.restartPending || f.destination != 31 }) := by
  have body : restartBody f (s.receive f) =
      ({ s.receive f with restartPending := s.restartPending || f.destination != 31 }, .ok, 0) := by
    rw [restartBody, hp]
    rfl
  have formed : (Instr.restart f).wellFormed = true := by
    rw [Instr.wellFormed, hw, hp]
    rfl
  exact whenFormed_of_wellFormed formed (ht.command_eq body)

/-- The station as an addressed RESTART that becomes pending finds it when its reply arrives (R156, R161). -/
abbrev State.awaitingRestart (f : Frame) (s : State) : State :=
  { (s.receive f).writeRecord f.sender ⟨.control, f.sequence, .ok, 0⟩ with restartPending := true }

/-- The arrival of a RESTART's reply, which a restart waits for or does not. -/
abbrev State.answerRestart (f : Frame) (awaited : Bool) (s : State) : State :=
  s.arrive .reply f.sender f.sequence (replyPayload .control f.sequence .ok false 0) awaited

theorem restartConclude_broadcast (hd : f.destination = 31) (was : Bool) :
    restartConclude was f .ok 0 s = s.takeRestart := by
  rw [restartConclude, if_neg (not_not_intro rfl), if_pos hd]

theorem restartConclude_pending (hd : f.destination ≠ 31) :
    restartConclude true f .ok 0 s = s.answerRestart f false := by
  rw [restartConclude, if_neg (not_not_intro rfl), if_neg hd, if_pos rfl, State.reply, if_neg hd]

theorem restartConclude_first (hd : f.destination ≠ 31) :
    restartConclude false f .ok 0 s =
      if (s.answerRestart f true).holdsRestartReply || s.arrivesLate then s.answerRestart f true
      else (s.answerRestart f true).takeRestart := by
  rw [restartConclude, if_neg (not_not_intro rfl), if_neg hd, if_neg Bool.false_ne_true, State.reply, if_neg hd]

/-- The reply of a RESTART that becomes pending, as it arrives (R156). -/
abbrev restartReplyTo (f : Frame) (age : Nat) : TxFrame :=
  .arriving .reply f.sender f.sequence (replyPayload .control f.sequence .ok false 0) true age

/-- A restart reply that is placed leaves the restart pending. -/
theorem restartConclude_placed (hd : f.destination ≠ 31) {v : State} {age : Nat}
    (h : s.answerRestart f true = v.placeFrame (restartReplyTo f age)) :
    restartConclude false f .ok 0 s = v.placeFrame (restartReplyTo f age) := by
  have held : (v.placeFrame (restartReplyTo f age)).holdsRestartReply = true :=
    List.any_eq_true.mpr ⟨_, (mem_insertFrame ..).mpr (.inl rfl), rfl⟩
  rw [restartConclude_first hd, h, held]
  rfl

theorem restartConclude_room (hd : f.destination ≠ 31) (ha : s.station = .active) (hu : s.queueShutFrom = none)
    (hl : s.queue.length < 16) : restartConclude false f .ok 0 s = s.placeFrame (restartReplyTo f s.nextAge) :=
  restartConclude_placed hd (State.arrive_of_room _ _ _ true ha hu hl)

theorem restartConclude_displacing (hd : f.destination ≠ 31) (ha : s.station = .active) (hu : s.queueShutFrom = none)
    (hl : s.queue.length = 16) {v : TxFrame} (hv : victim 0 s.queue = some v) :
    restartConclude false f .ok 0 s =
      State.placeFrame (restartReplyTo f s.nextAge)
        { s with queue := s.queue.erase v, counters := s.counters.countLost v.kind } :=
  restartConclude_placed hd (State.arrive_of_victim (kind := .reply) _ _ _ true ha hu hl.ge zero_le_one hv)

/-- A restart reply that is lost at its arrival, with no emptying under way, lets the restart take effect at once. -/
theorem restartConclude_lost (hd : f.destination ≠ 31) (hu : s.queueShutFrom = none)
    (hn : ∀ g ∈ s.queue, g.restartReply = false) (hl : s.queue.length = 16)
    (h0 : ∀ g ∈ s.queue, g.onLine = false → g.kind.cls = 0) :
    restartConclude false f .ok 0 s = (s.loseFrame .reply).takeRestart := by
  have lost : s.answerRestart f true = s.loseFrame .reply :=
    State.arrive_of_no_place _ _ _ true (.inr ⟨hl.ge, .inr fun g hg ho => (h0 g hg ho).le⟩)
  have none : (s.loseFrame .reply).holdsRestartReply = false := List.any_eq_false.mpr fun g hg => by simp [hn g hg]
  rw [restartConclude_first hd, lost, none, State.arrivesLate_of_unshut hu]
  rfl

end

/-! ### What a RESTART taking effect leaves (R191) -/

section

variable (s : State)

/-- What a restart empties and clears. -/
theorem State.takeRestart_clears :
    s.takeRestart.station = .listening ∧ s.takeRestart.listenCount = 0 ∧ s.takeRestart.restartPending = false ∧
      s.takeRestart.schedule = [] ∧ s.takeRestart.queue = [] ∧ s.takeRestart.finished = false ∧
      s.takeRestart.peers = [] ∧ s.takeRestart.roster = [] ∧ s.takeRestart.captureLog = [] ∧
      s.takeRestart.driftCount = 0 ∧ s.takeRestart.lockCount = if s.inLock then s.lockCount else 0 := by
  obtain ⟨_, _, _, e⟩ := s.takeRestart_touches
  rw [e]
  exact ⟨rfl, rfl, rfl, rfl, rfl, rfl, rfl, rfl, rfl, rfl, rfl⟩

/-- A restart holds every channel, and counts what it cuts (R74). -/
theorem State.takeRestart_holds :
    (∀ c : Fin 8, s.takeRestart.channels[c] =
      { s.channels[c] with pulse := none, burst := none, gen := .stopped, hold := some .restart }) ∧
    s.takeRestart.counters =
      { s.counters with
        pulsesCut := s.takeRestart.counters.pulsesCut
        burstsCut := s.takeRestart.counters.burstsCut } := by
  unfold State.takeRestart State.emptyQueue State.cutLine
  exact ⟨fun c => (State.enterHold_channel s .restart (fun _ => true) c).trans (if_pos rfl), rfl⟩

theorem State.takeRestart_line : s.takeRestart.line = s.cutLine.line := by
  obtain ⟨_, _, _, e⟩ := s.takeRestart_touches
  rw [e]

variable {s}

/-- With no frame on the line the cut ends the deferral and clears the backoff, and leaves the rest of the line (R145). -/
theorem State.cutLine_of_not_sending (h : s.line.condition ≠ .sending) :
    s.cutLine.line = { s.line with target := none, backoff := none } := if_neg h

end

/-- A flag written with the value it has. -/
theorem State.restartPending_self {u : State} {b : Bool} (h : u.restartPending = b) :
    { u with restartPending := b } = u := by
  subst h
  rfl

/-- Settles O52: the reply of an addressed RESTART is placed, displaces a frame, or is lost as any reply is, and the restart
that takes effect is taken apart block by block. -/
theorem restartTakesEffect : Obligations.RestartTakesEffect := by
  refine ⟨fun s u f hw ht hp hu => ?_, fun s t ht => ?_⟩
  · have active : s.station = .active := ht.1
    have taken := ht.exec_restart hw hp
    rw [← hu] at taken
    refine ⟨fun hd => ?_, fun hd hr => ?_, fun v hv hd hr hq hl ho hc hlast => ?_, fun hd hr hn hopen =>
      ⟨fun hl => ?_, fun hl h0 => ?_⟩⟩
    · rw [taken, restartConclude_broadcast hd]
      rfl
    · have still : u.restartPending = (true || f.destination != 31) := hu ▸ hr
      rw [taken, hr, restartConclude_pending hd, State.restartPending_self still]
    all_goals
      rw [taken, hr, Bool.false_or, bne_iff_ne.mpr hd]
      refine congrArg Host.Outcome.next ?_
      subst hu
    · obtain ⟨hopen, -, horder, -⟩ := hq
      exact restartConclude_displacing (s := s.awaitingRestart f) hd active hopen hl
        (victim_eq_of_lastOf horder hv ho hc hlast)
    · exact restartConclude_room (s := s.awaitingRestart f) hd active hopen hl
    · exact restartConclude_lost (s := s.awaitingRestart f) hd hopen hn hl h0
  · subst ht
    obtain ⟨station, count, pending, schedule, queue, finished, peers, roster, log, drift, lock⟩ := s.takeRestart_clears
    obtain ⟨channels, counters⟩ := s.takeRestart_holds
    obtain ⟨-, time, correction, sync, settle, inputs, mark, slots, settings⟩ := s.takeRestart_keeps
    obtain ⟨target, backoff, -⟩ := s.cutLine_line
    refine ⟨station, count, pending, schedule, queue, finished, peers, roster, log, drift, lock, channels, ?_, ?_, ?_, ?_,
      counters, time, correction, sync, settle, inputs, mark, slots, settings⟩ <;> rw [s.takeRestart_line]
    exacts [s.cutLine_condition.1, State.cutLine_of_not_sending, target, backoff]

end Sys2Proof.Machine
end

section
/-! QUERY: the REPORT of each topic and its length, the topic that there is not, and the station that sets every QUERY aside
(R159, R160, R169, R198). -/

namespace Sys2Proof.Machine

/-! ### The length of a record (R198) -/

theorem length_statusRecord (s : State) : (statusRecord s).length = 17 := rfl

theorem length_scheduleRecord (e : Entry) : (scheduleRecord e).length = 20 := by
  unfold scheduleRecord
  cases e.repetition <;> rfl

theorem length_captureBytes (r : CaptureRecord) : (captureBytes r).length = 7 := rfl

theorem length_peerRecord (p : Peer) : (peerRecord p).length = 12 := by
  unfold peerRecord
  cases p.record <;> rfl

theorem length_slotRecord (i : Fin 24) (o : Option Reaction) : (slotRecord i o).length = 26 := by
  cases o with
  | none => rfl
  | some r =>
    cases h : r.repetition <;> simp [slotRecord, h, bytes16, bytes32]

theorem length_channelRecord (g : ChannelSettings) (ch : Channel) : (channelRecord g ch).length = 28 := rfl

/-! ### The length of a REPORT (R169, R197) -/

/-- As many records as the topic allows take at most 28 bytes, which the four bytes ahead of them leave of 32. -/
def FitReport (per : Nat) (records : List (List Byte)) : Prop := ∀ r ∈ records, per * r.length ≤ 28

theorem FitReport.of_length {records : List (List Byte)} (n : Nat) {per : Nat} (hn : per * n ≤ 28)
    (h : ∀ r ∈ records, r.length = n) : FitReport per records := fun r hr => by rwa [h r hr]

theorem fitReport_map {α : Type} {per : Nat} {record : α → List Byte} (n : Nat) (hn : per * n ≤ 28)
    (h : ∀ a, (record a).length = n) (l : List α) : FitReport per (l.map record) :=
  .of_length n hn (List.forall_mem_map.mpr fun a _ => h a)

/-- A page of records that fit takes at most 28 bytes. -/
theorem FitReport.length_page {per : Nat} {records : List (List Byte)} (h : FitReport per records) (start : Nat) :
    (page start per records).flatten.length ≤ 28 := by
  obtain rfl | hper := per.eq_zero_or_pos
  · simp [page]
  have few : (page start per records).length ≤ per := List.length_take_le ..
  have short : ∀ r ∈ page start per records, r.length ≤ 28 / per := fun r hr =>
    (Nat.le_div_iff_mul_le hper).mpr (Nat.mul_comm .. ▸ h r (List.mem_of_mem_drop (List.mem_of_mem_take hr)))
  calc (page start per records).flatten.length
      = ((page start per records).map List.length).sum := List.length_flatten
    _ ≤ ((page start per records).map List.length).length * (28 / per) :=
        List.sum_le_card_nsmul _ _ (List.forall_mem_map.mpr short)
    _ ≤ per * (28 / per) := by rw [List.length_map]; exact Nat.mul_le_mul_right _ few
    _ ≤ 28 := Nat.mul_div_le 28 per

/-- The REPORT of records that fit has at most 32 bytes. -/
theorem FitReport.length_reportPayload {per : Nat} {records : List (List Byte)} (h : FitReport per records)
    (topic start total : Nat) : (reportPayload topic start total (page start per records)).length ≤ 32 := by
  have := h.length_page start
  simp only [reportPayload, List.length_append, List.length_cons, List.length_nil]
  omega

/-- The start index goes back as it came. -/
theorem reportPayload_natAt (topic total : Nat) (p : List Byte) (records : List (List Byte)) :
    reportPayload topic (natAt p 1) total records =
      [BitVec.ofNat 8 topic, byteAt p 1, BitVec.ofNat 8 total, BitVec.ofNat 8 records.length] ++ records.flatten := by
  simp only [reportPayload, byteOf, natAt, BitVec.ofNat_toNat, BitVec.setWidth_eq]

/-! ### A QUERY handed on (R136, R159, R160) -/

section

variable {s : State} {f : Frame}

/-- A frame of another station is taken wherever frames are handed on. -/
theorem State.handOver_of_receives (hr : s.station.receives = true) (hf : f.sender ≠ s.settings.station)
    (next : State → State) : s.handOver f next = next (s.receive f) := by
  rw [State.handOver, if_neg (by simp [hr]), if_neg hf]

theorem State.query_active (ha : s.station = .active) (hf : f.sender ≠ s.settings.station) (hd : s.addressed f = true)
    (topic per : Nat) (build : State → List (List Byte)) :
    s.query topic per build f =
      if f.destination = 31 then s.receive f
      else
        (s.receive f).arrive .report f.sender f.sequence
          (reportPayload topic (natAt f.payload 1) (build (s.receive f)).length
            (page (natAt f.payload 1) per (build (s.receive f)))) false := by
  rw [State.query, State.handOver_of_receives (by simp [ha]) hf, if_neg (by simpa using hd), if_neg (by simpa using ha)]

/-- What takes a frame sets it aside outside ACTIVE (R159). -/
def SetsAside (f : Frame) (next : State → State) : Prop :=
  ∀ t : State, t.addressed f = true → t.station ≠ .active → next t = t.setAside

/-- Every QUERY row hands its frame on to what sets it aside outside ACTIVE. -/
theorem exec_query_setsAside {i : Instr}
    (hi : i ∈ [Instr.queryStatus f, .querySchedule f, .queryCaptures f, .queryPeers f, .queryReactions f,
      .queryCounters f, .queryChannels f, .queryUnknownTopic f]) (s : State) :
    ∃ next, exec i s = whenFormed i (s.handOver f next) ∧ SetsAside f next := by
  have report : ∀ {topic per build}, exec i s = whenFormed i (s.query topic per build f) →
      ∃ next, exec i s = whenFormed i (s.handOver f next) ∧ SetsAside f next :=
    fun hx => ⟨_, hx, fun t hd ha => by rw [if_neg (by simpa using hd), if_pos ha]⟩
  simp only [List.mem_cons, List.not_mem_nil, or_false] at hi
  obtain rfl | rfl | rfl | rfl | rfl | rfl | rfl | rfl := hi
  iterate 7 exact report rfl
  exact ⟨_, rfl, fun t hd ha => by rw [State.refuseTopic, if_neg (by simpa using hd), if_pos ha]⟩

/-- The seven QUERY rows with a topic: the topic's number, how many of its records a REPORT holds, and its records in the
state that the frame leaves (R169). -/
abbrev queryRows (f : Frame) (t : State) : List (Instr × Nat × Nat × List (List Byte)) :=
  [(.queryStatus f, 0, 1, statusRecords t), (.querySchedule f, 1, 1, scheduleRecords t),
    (.queryCaptures f, 2, 4, captureRecords t), (.queryPeers f, 3, 2, peerRecords t),
    (.queryReactions f, 4, 1, slotRecords t), (.queryCounters f, 5, 14, counterRecords t),
    (.queryChannels f, 6, 1, channelRecords t)]

/-- Each of the seven is the one QUERY operation on its topic's records, and a REPORT has room for them. -/
theorem queryRow_of_mem {i : Instr} {topic per : Nat} {records : List (List Byte)}
    (hi : (i, topic, per, records) ∈ queryRows f (s.receive f)) (hw : f.wellFormed .query = true)
    (ht : natAt f.payload 0 = topic) :
    ∃ build, exec i s = .next (s.query topic per build f) ∧ records = build (s.receive f) ∧ FitReport per records := by
  have formed : (f.wellFormed .query && natAt f.payload 0 == topic) = true := by simp [hw, ht]
  simp only [queryRows, List.mem_cons, Prod.mk.injEq, List.not_mem_nil, or_false] at hi
  obtain ⟨rfl, rfl, rfl, rfl⟩ | ⟨rfl, rfl, rfl, rfl⟩ | ⟨rfl, rfl, rfl, rfl⟩ | ⟨rfl, rfl, rfl, rfl⟩ | ⟨rfl, rfl, rfl, rfl⟩ |
    ⟨rfl, rfl, rfl, rfl⟩ | ⟨rfl, rfl, rfl, rfl⟩ := hi <;> refine ⟨_, whenFormed_of_wellFormed formed rfl, rfl, ?_⟩
  · exact .of_length 17 (by decide) (List.forall_mem_singleton.mpr (length_statusRecord _))
  · exact fitReport_map 20 (by decide) length_scheduleRecord _
  · exact fitReport_map 7 (by decide) length_captureBytes _
  · exact fitReport_map 12 (by decide) length_peerRecord _
  · exact fitReport_map 26 (by decide) (fun i => length_slotRecord i _) _
  · exact fitReport_map 2 (by decide) (fun _ => rfl) _
  · exact fitReport_map 28 (by decide) (fun c => length_channelRecord _ _) _

/-- A QUERY of an undefined topic is refused by a REPLY, and recorded nowhere (R163, R169). -/
theorem exec_queryUnknownTopic (ha : s.station = .active) (hf : f.sender ≠ s.settings.station)
    (hd : s.addressed f = true) (hw : f.wellFormed .query = true) (h6 : 6 < natAt f.payload 0) :
    exec (.queryUnknownTopic f) s =
      .next ((s.receive f).refusePayload.1.reply .query f .badParam false 0 false) := by
  have formed : (Instr.queryUnknownTopic f).wellFormed = true := by simp [Instr.wellFormed, hw, h6]
  refine whenFormed_of_wellFormed formed ?_
  rw [State.handOver_of_receives (by simp [ha]) hf, State.refuseTopic, if_neg (by simpa using hd),
    if_neg (by simpa using ha)]

end

/-- Settles O50: each row of a topic is the one QUERY operation, whose REPORT is as long as its topic's records allow. -/
theorem queriesAreReported : Obligations.QueriesAreReported := by
  intro s f hw hf hd
  refine ⟨fun hs i hi formed => ?_, fun i topic per records page hi ha ht hp => ?_, fun ha h6 =>
    exec_queryUnknownTopic ha hf hd hw h6⟩
  · obtain ⟨next, hx, aside⟩ := exec_query_setsAside hi s
    have receives : s.station.receives = true := by obtain h | h := hs <;> simp [h]
    have idle : s.station ≠ .active := by obtain h | h := hs <;> simp [h]
    refine hx.trans (whenFormed_of_wellFormed formed ?_)
    rw [State.handOver_of_receives receives hf]
    exact aside _ hd idle
  · obtain ⟨build, hx, rfl, fits⟩ := queryRow_of_mem hi hw ht
    rw [hx, State.query_active ha hf hd]
    refine ⟨fun h31 => by rw [if_pos h31], fun h31 => ⟨_, rfl, ?_⟩⟩
    subst hp
    rw [← page, ← reportPayload_natAt, if_neg h31]
    exact ⟨fits.length_reportPayload .., rfl⟩

end Sys2Proof.Machine
end

section
/-! CLEAR_COUNTERS: every counter of the counter index table, and nothing else (R172, R173, R199). -/

namespace Sys2Proof.Machine

section

variable (s : State)

theorem State.clearCounters_channel (c : Fin 8) : s.clearCounters.channels[c] = { s.channels[c] with skipped := 0 } := by
  simp [State.clearCounters]

theorem State.clearCounters_input (i : Fin 4) : s.clearCounters.inputs[i] = { s.inputs[i] with suppressed := 0 } := by
  simp [State.clearCounters]

/-- The counts of the index table that stand outside the station counters are 0 after a CLEAR_COUNTERS. -/
theorem State.clearCounters_counts :
    (List.finRange 8).map (fun c => s.clearCounters.channels[c].skipped) = List.replicate 8 0 ∧
      (List.finRange 4).map (fun i => s.clearCounters.inputs[i].suppressed) = List.replicate 4 0 ∧
      (List.finRange 24).map (fun i => (s.clearCounters.slots[i].map (·.hits)).getD 0) = List.replicate 24 0 := by
  refine ⟨?_, ?_, ?_⟩ <;> refine List.map_eq_replicate_iff.mpr fun n _ => ?_
  · rw [s.clearCounters_channel]
  · rw [s.clearCounters_input]
  · rw [s.clearCounters_slot]
    cases s.slots[n] <;> rfl

/-- All 69 entries of the index table read 0. -/
theorem State.clearCounters_counterList : s.clearCounters.counterList = List.replicate 69 0 := by
  obtain ⟨skipped, suppressed, hits⟩ := s.clearCounters_counts
  rw [State.counterList, skipped, suppressed, hits]
  rfl

end

/-- Settles O51: the command is taken, its body is the clearing, and the clearing is read off count by count. -/
theorem clearCountersClears : Obligations.ClearCountersClears := by
  intro s f hw ht hp
  have formed : (Instr.clearCounters f).wellFormed = true := by simp [Instr.wellFormed, hw, hp, natAt, byteAt]
  have body : clearCountersBody f (s.receive f) = ((s.receive f).clearCounters, .ok, 0) := by
    rw [clearCountersBody, hp]
    rfl
  exact ⟨(s.receive f).clearCounters, whenFormed_of_wellFormed formed (ht.command_eq body), rfl,
    (s.receive f).clearCounters_channel, (s.receive f).clearCounters_input, (s.receive f).clearCounters_slot,
    (s.receive f).clearCounters_counterList⟩

end Sys2Proof.Machine
end

section
/-! SUPPORT. What the operations, a clean frame handed on, a step overtaken by a duplicate and the end of an own frame do to
the station state (R126, R136, R142, R144, R156, R186). -/

namespace Sys2Proof.Machine

/-! ### The operations and the station state -/

section

variable {s t : State} {f : Frame}

theorem State.reply_station (k : FrameKind) (f : Frame) (c : ResultCode) (dup : Bool) (d : Word16) (r : Bool) (s : State) :
    (s.reply k f c dup d r).station = s.station := by
  obtain ⟨_, _, _, e⟩ := s.reply_touches k f c dup d r
  rw [e]

theorem State.fireReached_station (s : State) : s.fireReached.station = s.station := by
  obtain ⟨_, _, _, _, _, e⟩ := s.fireReached_touches
  rw [e]

theorem State.takeMarkFrame_station (f : Frame) (s : State) : (s.takeMarkFrame f).station = s.station := by
  unfold State.takeMarkFrame
  repeat' split
  · obtain ⟨_, _, _, _, _, _, e⟩ := State.takeMark_touches _ s
    rw [e]
  all_goals rfl

theorem State.refuseTopic_station (f : Frame) (s : State) : (s.refuseTopic f).station = s.station := by
  unfold State.refuseTopic
  repeat' split
  exacts [rfl, rfl, State.reply_station ..]

/-- A duplicate silences a station that is LISTENING or ACTIVE, and no other (R126). -/
theorem State.duplicateFound_station (s : State) :
    s.duplicateFound.station = s.station ∨
      (s.station = .listening ∨ s.station = .active) ∧ s.duplicateFound.station = .silenced := by
  cases hs : s.station
  case listening => exact .inr ⟨.inl rfl, by rw [State.duplicateFound_eq_silence (.inl hs)]; rfl⟩
  case active => exact .inr ⟨.inr rfl, by rw [State.duplicateFound_eq_silence (.inr hs)]; rfl⟩
  all_goals exact .inl (by simp [State.duplicateFound, hs])

theorem execCaptureEdge_station {i : Fin 4} {e : Edge} {first : Bool} (hx : execCaptureEdge i e first s = .next t) :
    t.station = s.station := by
  cases hx
  repeat' split
  case isFalse.isFalse.isTrue =>
    obtain ⟨_, _, _, _, _, _, _, _, _, e'⟩ := (s.setLevel i (levelAfter e)).edgeOfInterest_touches i e first
    rw [e']
    rfl
  all_goals rfl

/-- A settle point moves a station that is LISTENING and has reached the listen time to ACTIVE, and no other (R186). -/
theorem execSettlePoint_station {order : List SettleAct} (hx : execSettlePoint order s = .next t) :
    t.station = s.station ∨
      s.station = .listening ∧ s.settings.listenTime ≤ s.listenCount + 1 ∧ t.station = .active := by
  obtain ⟨hw, rfl⟩ := whenFormed_eq_next.mp hx
  split
  case isFalse => exact .inl rfl
  by_cases hl : s.station = .listening
  · by_cases hc : s.settings.listenTime ≤ s.listenCount + 1
    · obtain ⟨u, -, same, after, -⟩ := settle_counts hw s
      simp only [State.duty, Prod.mk.injEq] at same after
      obtain ⟨hstation, hcount, -, hsettings, -⟩ := same
      obtain ⟨_, _, _, _, e⟩ := State.activate_touches { u with listenCount := u.listenCount + 1 }
      refine .inr ⟨hl, hc, after.1.trans ?_⟩
      rw [State.countListen_activates (hstation.trans hl) (by rwa [hcount, hsettings]), e]
    · exact .inl ((settle_listening hw hl (Nat.lt_of_not_le hc)).1.trans hl.symm)
  · exact .inl (congrArg Prod.fst (settle_duty (order := order) hl))

/-! ### A clean frame handed on (R126, R136, R156) -/

/-- The station state is as it was, or the frame bore the station's own number and silenced it. -/
abbrev State.DuplicateOnly (f : Frame) (s t : State) : Prop :=
  t.station = s.station ∨
    f.sender = s.settings.station ∧ (s.station = .listening ∨ s.station = .active) ∧ t.station = .silenced

/-- A RESTART from another station takes effect in ACTIVE. -/
abbrev State.Restarts (f : Frame) (s t : State) : Prop :=
  f.sender ≠ s.settings.station ∧ natAt f.payload 0 = 3 ∧ s.station = .active ∧ t.station = .listening

/-- The hand-over adds the duplicate to what the next block does to the station state. -/
theorem State.handOver_station (f : Frame) (next : State → State) (s : State) :
    s.DuplicateOnly f (s.handOver f next) ∨
      f.sender ≠ s.settings.station ∧ (s.handOver f next).station = (next (s.receive f)).station := by
  obtain ⟨-, e⟩ | ⟨-, hf, e⟩ | ⟨-, hf, e⟩ := State.handOver_cases f next s <;> rw [e]
  exacts [.inl (.inl rfl), .inl (s.duplicateFound_station.imp_right fun h => ⟨hf, h⟩), .inr ⟨hf, rfl⟩]

theorem State.handOver_duplicateOnly {next : State → State} (hn : (next (s.receive f)).station = s.station) :
    s.DuplicateOnly f (s.handOver f next) :=
  (s.handOver_station f next).elim id fun h => .inl (h.2.trans hn)

/-- What the decoder leaves of the station state is what the conclusion of a command taken leaves of it. -/
theorem State.decode_station {kind : CommandKind} {body : State → State × ResultCode × Word16}
    {conclude : ResultCode → Word16 → State → State} (hb : Within.Body s body) :
    (s.decode kind f body conclude).station = s.station ∨
      s.station = .active ∧ ∃ c d u, State.station u = .active ∧ s.decode kind f body conclude = conclude c d u := by
  obtain ⟨-, e⟩ | ⟨-, -, e⟩ | ⟨-, -, r, -, e⟩ | ⟨-, ha, -, e⟩ := State.decode_cases kind f body conclude s <;> rw [e]
  · exact .inl rfl
  · exact .inl rfl
  · exact .inl (State.reply_station _ f r.code true r.detail false s.countRepeat)
  · exact .inr ⟨ha, (body s).2.1, (body s).2.2,
      (body s).1.writeRecord f.sender ⟨kind, f.sequence, (body s).2.1, (body s).2.2⟩, (hb .start ha).2, rfl⟩

theorem State.command_duplicateOnly {kind : CommandKind} {body : State → State × ResultCode × Word16}
    (hb : Within.Body (s.receive f) body) : s.DuplicateOnly f (s.command kind f body (State.answer kind f)) := by
  refine State.handOver_duplicateOnly ?_
  obtain e | ⟨ha, c, d, u, hu, e⟩ := State.decode_station (kind := kind) (f := f) (conclude := State.answer kind f) hb
  · exact e
  · rw [e]
    exact (State.reply_station ..).trans (hu.trans ha.symm)

theorem State.query_duplicateOnly (topic per : Nat) (build : State → List (List Byte)) :
    s.DuplicateOnly f (s.query topic per build f) := by
  refine State.handOver_duplicateOnly ?_
  dsimp only
  repeat' split
  exacts [rfl, rfl, rfl, State.arrive_station ..]

/-- A RESTART is concluded in ACTIVE, by its answer or by the restart (R156, R174, R175). -/
theorem restartConclude_station (ha : s.station = .active) (was : Bool) (f : Frame) (c : ResultCode) (d : Word16) :
    (restartConclude was f c d s).station = .active ∨ (restartConclude was f c d s).station = .listening := by
  have replied : ∀ r, (s.reply .control f c false d r).station = .active := fun _ => (State.reply_station ..).trans ha
  obtain e | ⟨-, -, e⟩ | ⟨-, -, -, e⟩ := restartConclude_cases was f c d s <;> rw [e]
  · exact .inl (replied _)
  · exact .inr (State.takeRestart_clears _).1
  · split
    exacts [.inl (replied _), .inr (State.takeRestart_clears _).1]

theorem execRestart_station (hx : execRestart f s = .next t) : s.DuplicateOnly f t ∨ s.Restarts f t := by
  obtain ⟨hw, rfl⟩ := whenFormed_eq_next.mp hx
  simp only [Instr.wellFormed, Bool.and_eq_true, beq_iff_eq] at hw
  obtain h | ⟨hf, h⟩ := s.handOver_station f (State.decode .control f (restartBody f) (restartConclude s.restartPending f))
  · exact .inl h
  obtain e | ⟨ha, c, d, u, hu, e⟩ := State.decode_station (s := s.receive f) (kind := .control) (f := f)
    (conclude := restartConclude s.restartPending f) (Within.restartBody f)
  · exact .inl (.inl (h.trans e))
  · rw [e] at h
    obtain active | listening := restartConclude_station hu s.restartPending f c d
    · exact .inl (.inl (h.trans (active.trans ha.symm)))
    · exact .inr ⟨hf, hw.2, ha, h.trans listening⟩

/-- A clean frame handed on by its row, with no step overtaken: it silences the station as a duplicate, it restarts the
station as a RESTART, or it leaves the station state. -/
theorem exec_frame_station {i : Instr} (hi : i.frame? = some f) (hd : ∀ k g o, i ≠ .duplicateNumberFrame k g (some o))
    (hx : exec i s = .next t) : s.DuplicateOnly f t ∨ i = .restart f ∧ s.Restarts f t := by
  cases i <;> simp only [Instr.frame?, Option.some.injEq, reduceCtorEq] at hi <;> obtain rfl := hi.symm
  case restart => exact (execRestart_station hx).imp_right fun h => ⟨rfl, h⟩
  all_goals left
  case duplicateNumberFrame k o =>
    cases o with
    | some o => exact absurd rfl (hd _ _ o)
    | none =>
      change execDuplicateNumberFrame k f none s = .next t at hx
      unfold execDuplicateNumberFrame at hx
      dsimp only at hx
      split at hx
      · cases hx
      split at hx <;> rename_i hf <;> cases hx
      exacts [.inl rfl, s.duplicateFound_station.imp_right fun h => ⟨not_not.mp hf, h⟩]
  all_goals obtain ⟨-, rfl⟩ := whenFormed_eq_next.mp hx
  case markReceived => exact State.handOver_duplicateOnly (State.takeMarkFrame_station ..)
  case helloReceived | stampReceived | foreignAnswer => exact State.handOver_duplicateOnly rfl
  case commandForAnotherStation =>
    split
    exacts [.inl rfl, State.handOver_duplicateOnly rfl]
  case queryUnknownTopic => exact State.handOver_duplicateOnly (State.refuseTopic_station ..)
  case arm => exact State.command_duplicateOnly (Within.armBody _)
  case cancelByTag => exact State.command_duplicateOnly (Within.cancelByTagBody _)
  case cancelByChannel => exact State.command_duplicateOnly (Within.cancelByChannelBody _)
  case setgen => exact State.command_duplicateOnly (Within.setgenBody _)
  case reactInstall => exact State.command_duplicateOnly (Within.installBody _)
  case reactRemove => exact State.command_duplicateOnly (Within.removeBody _)
  case releaseHold => exact State.command_duplicateOnly (Within.releaseHoldBody _)
  case clearCounters => exact State.command_duplicateOnly (Within.clearCountersBody _)
  case flushSchedule => exact State.command_duplicateOnly (Within.flushBody _)
  all_goals exact State.query_duplicateOnly ..

/-- The row of a RESTART is that of a CONTROL (R136). -/
theorem kind_of_rowOf_eq_restart {own : Nat} {kind : FrameKind} {g : Frame} (h : rowOf own kind f = .restart g) :
    kind = .control := by
  unfold rowOf at h
  cases kind
  case control => rfl
  all_goals
    dsimp only at h
    repeat' split at h
    all_goals cases h

theorem State.deliver_station {kind : FrameKind} (hx : s.deliver kind f = .next t) :
    s.DuplicateOnly f t ∨ kind = .control ∧ s.Restarts f t := by
  obtain ⟨hf, hd⟩ := rowOf_frame? s.settings.station kind f
  exact (exec_frame_station hf hd (State.deliver_eq_exec_rowOf .. ▸ hx)).imp_right fun ⟨e, h⟩ =>
    ⟨kind_of_rowOf_eq_restart e, h⟩

/-- A line that goes quiet leaves the station state but by the clean frame that it hands on (R134, R136). -/
theorem execLineGoesQuiet_station {cells : List Bool} {more first : Bool}
    (hx : execLineGoesQuiet cells more first s = .next t) :
    t.station = s.station ∨ ∃ kind f, s.line.receiving = true ∧ judge s.line.breakNoted cells more = .clean kind f ∧
      (s.DuplicateOnly f t ∨ kind = .control ∧ s.Restarts f t) := by
  unfold execLineGoesQuiet at hx
  split at hx <;> rename_i hb
  · cases hx
    exact .inl rfl
  split at hx <;> rename_i hp
  · cases hx
    exact .inl rfl
  have receiving : s.line.receiving = true := by simp_all [LineInterface.receiving]
  obtain ⟨n, e, -⟩ | ⟨kind, f, u, v, clean, -, hu, ⟨-, hd, e⟩ | ⟨-, hd, e⟩⟩ := State.endStretch_cases cells more first s
  all_goals
    rw [e] at hx
    cases hx
  · exact .inl rfl
  all_goals
    subst hu
    have handed := State.deliver_station hd
    exact .inr ⟨kind, f, receiving, clean, handed⟩

/-! ### A step overtaken by a duplicate (R126, R158) -/

/-- A step that a duplicate can overtake moves a station in LISTENING or ACTIVE alone, and leaves it receiving. -/
theorem State.takeOvertaken_station {o : OvertakenStep} (hx : s.takeOvertaken o = .next t) :
    t.station = s.station ∨ (s.station = .listening ∨ s.station = .active) ∧ t.station.receives = true := by
  have heard : ∀ {f : Frame}, s.DuplicateOnly f t →
      t.station = s.station ∨ (s.station = .listening ∨ s.station = .active) ∧ t.station.receives = true := fun h =>
    h.imp_right fun ⟨_, hs, ht⟩ => ⟨hs, by rw [ht]; rfl⟩
  cases o with
  | entryDue =>
    cases hx
    exact .inl s.fireReached_station
  | settlePoint order =>
    exact (execSettlePoint_station hx).imp_right fun ⟨hs, _, ht⟩ => ⟨.inl hs, by rw [ht]; rfl⟩
  | captureEdge => exact .inl (execCaptureEdge_station hx)
  | delivered kind f =>
    unfold State.takeOvertaken at hx
    dsimp only at hx
    split at hx <;> rename_i hf
    · cases hx
      exact heard (s.duplicateFound_station.imp_right fun h => ⟨hf, h⟩)
    · obtain h | ⟨-, -, -, hs, ht⟩ := State.deliver_station (kind := kind) (f := f) ((if_neg hf).trans hx)
      exacts [heard h, .inr ⟨.inr hs, by rw [ht]; rfl⟩]

/-- A station that receives is SILENCED once a duplicate is found. -/
theorem State.duplicateFound_silences (h : s.station.receives = true) : s.duplicateFound.station = .silenced := by
  obtain e | ⟨-, e⟩ := s.duplicateFound_station
  · cases hs : s.station <;> simp_all [State.duplicateFound, State.silence]
  · exact e

/-- A duplicate, with the step that it may overtake, silences the station or leaves its state. -/
theorem execDuplicateNumberFrame_duplicateOnly {kind : FrameKind} {overtaken : Option Overtaken}
    (hx : execDuplicateNumberFrame kind f overtaken s = .next t) : s.DuplicateOnly f t := by
  have hw : (Instr.duplicateNumberFrame kind f overtaken).wellFormed = true := by
    by_contra hw
    rw [Bool.not_eq_true] at hw
    simp [execDuplicateNumberFrame, hw] at hx
  obtain ⟨-, e⟩ | ⟨hf, -, e⟩ | ⟨hf, o, u, -, hu, e⟩ := execDuplicateNumberFrame_cases s hw <;> cases e.symm.trans hx
  · exact .inl rfl
  · exact s.duplicateFound_station.imp_right fun h => ⟨hf, h⟩
  · obtain same | ⟨hs, receives⟩ := State.takeOvertaken_station hu
    · obtain found | ⟨hs, found⟩ := State.duplicateFound_station { u with queueShutFrom := none }
      exacts [.inl (found.trans same), .inr ⟨hf, same ▸ hs, found⟩]
    · exact .inr ⟨hf, hs, State.duplicateFound_silences receives⟩

/-! ### The restart that the end of its reply lets take effect (R142, R144, R156) -/

/-- The restart reply is the frame on the line. -/
abbrev State.SendsRestartReply (s : State) : Prop := ∃ g ∈ s.queue, g.onLine = true ∧ g.restartReply = true

theorem State.sendsRestartReply_of_frameOnLine {g : TxFrame} (hf : s.frameOnLine = some g) (hr : g.restartReply = true) :
    s.SendsRestartReply := ⟨g, List.mem_of_find?_eq_some hf, List.find?_some (p := TxFrame.onLine) hf, hr⟩

theorem State.restart_if_station (b : Bool) (s : State) :
    (if b then s.takeRestart else s).station = s.station ∨
      b = true ∧ (if b then s.takeRestart else s).station = .listening := by
  cases b
  exacts [.inl rfl, .inr ⟨rfl, s.takeRestart_clears.1⟩]

/-- A sixth collision lets the restart take effect whose reply it abandons, and no other collision does (R142, R156). -/
theorem execCollision_station (hx : execCollision s = .next t) :
    t.station = s.station ∨ s.line.condition = .sending ∧ s.SendsRestartReply ∧ t.station = .listening := by
  cases hx
  split <;> rename_i hc
  case isFalse => exact .inl rfl
  split
  case h_1 => exact .inl rfl
  rename_i g hf
  split
  case isFalse => exact .inl rfl
  exact (s.giveUp.restart_if_station g.restartReply).imp_right fun ⟨hr, h⟩ =>
    ⟨hc, State.sendsRestartReply_of_frameOnLine hf hr, h⟩

/-- The clean end of the restart reply lets the restart take effect, and that of no other frame does (R144, R156). -/
theorem execOwnFrameCleanEnd_station (hx : execOwnFrameCleanEnd s = .next t) :
    t.station = s.station ∨ s.line.condition = .sending ∧ s.SendsRestartReply ∧ t.station = .listening := by
  cases hx
  split <;> rename_i he
  case isFalse => exact .inl rfl
  refine (s.finishFrame.restart_if_station _).imp_right fun ⟨hr, h⟩ => ?_
  obtain ⟨g, hf, hr⟩ := (Option.any_eq_true ..).mp hr
  exact ⟨by simp_all [State.ownFrameEnds], State.sendsRestartReply_of_frameOnLine hf hr, h⟩

end

end Sys2Proof.Machine
end

section
/-! The state that power-on and RESET_N lead to, and R179's table: each of its events moves the station state as it says, and
every other event leaves it (R126, R156, R179 to R181, R184 to R191). -/

namespace Sys2Proof.Machine

/-! ### The reset and the end of the read (R180, R181, R184, R185) -/

/-- Settles O53: both resets leave the initial state, from which every pin is read off, and a release takes its operand. -/
theorem resetDiscardsEverything : Obligations.ResetDiscardsEverything := by
  intro s t ht
  subst ht
  refine ⟨rfl, rfl, fun _ => rfl, rfl, rfl, rfl, rfl, rfl, fun memory hm => ?_⟩
  have formed : (Instr.resetNReleased memory).wellFormed = true := by simp [Instr.wellFormed, hm]
  exact ⟨fun hh => whenFormed_of_wellFormed formed (if_pos hh),
    fun hh => whenFormed_of_wellFormed formed (if_neg (by simp [hh]))⟩

/-- The end of the read decides between LISTENING and CONFIG_FAULT by the image held (R184, R185). -/
theorem execConfigReadEnd_station {s t : State} (hx : execConfigReadEnd s = .next t) :
    t.station = s.station ∨ s.station = .configuring ∧
      t.station = if imagePasses (bitsBytes s.imageBits) then .listening else .configFault := by
  cases hx
  split <;> rename_i hr
  · exact .inl rfl
  · refine .inr ⟨State.station_of_readComplete (by simpa using hr), ?_⟩
    split <;> rfl

/-! ### The table (R126, R156, R179, R186, R190) -/

/-- A station that sends is ACTIVE. -/
theorem State.QuietStationLaw.active_of_sending {s : State} (hq : s.QuietStationLaw)
    (hs : s.line.condition = .sending) : s.station = .active :=
  by_contra fun hn => (hq.1 hn).2.1 hs

section

variable {i : Instr} {s t : State}

/-- A frame that bears the station's own number silences it, handed on by its row or by the line's going quiet. -/
abbrev State.IsSilenced (i : Instr) (s t : State) : Prop :=
  ∃ f, s.handsOn i = some f ∧ f.sender = s.settings.station ∧ (s.station = .listening ∨ s.station = .active) ∧
    t.station = .silenced

/-- A RESTART is taken, by its row or as the line goes quiet. -/
abbrev State.TakesRestart (i : Instr) (s : State) : Prop :=
  ∃ f, f.sender ≠ s.settings.station ∧ natAt f.payload 0 = 3 ∧
    (i = .restart f ∨ ∃ cells more first, i = .lineGoesQuiet cells more first ∧ s.line.receiving = true ∧
      judge s.line.breakNoted cells more = .clean .control f)

/-- A restart takes effect in ACTIVE, by its command or as the restart reply leaves the line. -/
abbrev State.IsRestarted (i : Instr) (s t : State) : Prop :=
  s.station = .active ∧ t.station = .listening ∧
    (s.TakesRestart i ∨ (i = .collision ∨ i = .ownFrameCleanEnd) ∧ s.SendsRestartReply)

theorem State.handsOn_of_frame? {f : Frame} (h : i.frame? = some f) : s.handsOn i = some f := by
  cases i
  case lineGoesQuiet => cases h
  all_goals exact h

/-- A frame's row silences the station, restarts it, or leaves its state. -/
theorem exec_frame_table {f : Frame} (hf : i.frame? = some f) (hx : exec i s = .next t) :
    t.station = s.station ∨ s.IsSilenced i t ∨ s.IsRestarted i t := by
  have silenced : s.DuplicateOnly f t → t.station = s.station ∨ s.IsSilenced i t ∨ s.IsRestarted i t := fun h =>
    h.imp_right fun h => .inl ⟨f, State.handsOn_of_frame? hf, h⟩
  by_cases hd : ∃ k g o, i = .duplicateNumberFrame k g (some o)
  · obtain ⟨k, g, o, rfl⟩ := hd
    cases hf
    exact silenced (execDuplicateNumberFrame_duplicateOnly hx)
  · obtain h | ⟨rfl, hs, hp, ha, ht⟩ := exec_frame_station hf (fun k g o h => hd ⟨k, g, o, h⟩) hx
    exacts [silenced h, .inr (.inr ⟨ha, ht, .inl ⟨f, hs, hp, .inl rfl⟩⟩)]

theorem execLineGoesQuiet_table {cells : List Bool} {more first : Bool}
    (hx : execLineGoesQuiet cells more first s = .next t) :
    t.station = s.station ∨ s.IsSilenced (.lineGoesQuiet cells more first) t ∨
      s.IsRestarted (.lineGoesQuiet cells more first) t := by
  obtain h | ⟨kind, f, receiving, clean, h | ⟨rfl, hs, hp, ha, ht⟩⟩ := execLineGoesQuiet_station hx
  · exact .inl h
  · exact h.imp_right fun h => .inl ⟨f, by simp [State.handsOn, receiving, clean], h⟩
  · exact .inr (.inr ⟨ha, ht, .inl ⟨f, hs, hp, .inr ⟨cells, more, first, rfl, receiving, clean⟩⟩⟩)

/-- A command that hands on no frame by its row, and is neither a reset, nor the end of the read, nor a settle point. -/
theorem exec_event_table (hf : i.frame? = none) (hr : ¬(i = .powerOn ∨ i = .resetNAsserted)) (hc : i ≠ .configReadEnd)
    (ho : ∀ order, i ≠ .settlePoint order) (hq : s.QuietStationLaw) (hx : exec i s = .next t) :
    t.station = s.station ∨ s.IsSilenced i t ∨ s.IsRestarted i t := by
  cases i <;> simp only [Instr.frame?, reduceCtorEq] at hf
  case powerOn | resetNAsserted => simp at hr
  case configReadEnd => exact absurd rfl hc
  case settlePoint order => exact absurd rfl (ho order)
  case lineGoesQuiet => exact execLineGoesQuiet_table hx
  case collision =>
    exact (execCollision_station hx).imp_right fun ⟨sends, reply, ht⟩ =>
      .inr ⟨hq.active_of_sending sends, ht, .inr ⟨.inl rfl, reply⟩⟩
  case ownFrameCleanEnd =>
    exact (execOwnFrameCleanEnd_station hx).imp_right fun ⟨sends, reply, ht⟩ =>
      .inr ⟨hq.active_of_sending sends, ht, .inr ⟨.inr rfl, reply⟩⟩
  all_goals left
  case captureEdge => exact execCaptureEdge_station hx
  case resetNReleased =>
    obtain ⟨-, rfl⟩ := whenFormed_eq_next.mp hx
    split <;> rfl
  all_goals cases hx
  case entryDue => exact s.fireReached_station
  all_goals
    repeat' split
    all_goals rfl

end

/-- Settles O56: the events of the table are taken row by row, and every other leaves the station state. -/
theorem stationStateFollowsTable : Obligations.StationStateFollowsTable := by
  intro i s t hx hq hne
  by_cases hr : i = .powerOn ∨ i = .resetNAsserted
  · exact .inl ⟨hr, by obtain rfl | rfl := hr <;> cases hx <;> rfl⟩
  right
  by_cases hc : i = .configReadEnd
  · subst hc
    exact .inl ⟨rfl, (execConfigReadEnd_station hx).resolve_left hne⟩
  right
  by_cases ho : ∃ order, i = .settlePoint order
  · obtain ⟨order, rfl⟩ := ho
    exact .inl ⟨order, rfl, (execSettlePoint_station hx).resolve_left hne⟩
  right
  cases hf : i.frame? with
  | some f => exact (exec_frame_table hf hx).resolve_left hne
  | none => exact (exec_event_table hf hr hc (not_exists.mp ho) hq hx).resolve_left hne

end Sys2Proof.Machine
end

section
/-! The step on a queue with a command at its front. -/

namespace Sys2Proof.Machine

/-- Settles O1: of the step's two cases, a queue that starts with `c` leaves the one that takes `c`. -/
theorem stepTakesFrontCommand : Obligations.StepTakesFrontCommand := by
  intro c rest s hp
  simp only [step, hp]

end Sys2Proof.Machine
end
